-- ==== Sys2Proof/Word.lean ====
section
/-! DEFINITION. The word types of the NB330's wire: a byte of an exchange, and the sixteen bits of an event
bitmap or mask. Every other quantity of the part is a whole number with a unit (spec 02, R18), a Nat or an Int. -/

namespace Sys2Proof

/-- One byte of an exchange (R155). -/
abbrev Byte := BitVec 8

/-- Sixteen bits, one for each event kind: the event bitmap and the enable mask (R156, R173). -/
abbrev KindBits := BitVec 16

end Sys2Proof
end

