-- ==== Sys2Proof/Syntax.lean ====
section
/-! DEFINITION. The commands of the NB330: one constructor for each row of spec/opcode_table.json. A release command
(READ to UNKNOWN_COMMAND) is the release of a port's select on an exchange of its kind; the exchange's bytes are those
that BYTE_TAKEN collected. `stray` is the number of bits of a partial byte sampled after the last whole byte. -/

namespace Sys2Proof

/-- The four ports, named after the controllers wired to them (spec 00). -/
inductive Port where
  | e | t | b | c
  deriving DecidableEq, Repr

/-- The commands, one for each row of the opcode table. -/
inductive Instr where
  /-- DEVICE_RESET: RESET is asserted, or the part powers up (R152). -/
  | deviceReset
  /-- RESET_RELEASE: RESET is released, with SYNC at the level `sync` (R6, R10). -/
  | resetRelease (sync : Bool)
  /-- START_INTERVAL_END: the timer takes the end of the start interval (R6). -/
  | startIntervalEnd
  /-- GUARD_END: the timer takes the guard end (R2). -/
  | guardEnd
  /-- PUBLISH_POINT: the timer takes the publish point (R9). -/
  | publishPoint
  /-- FREE_BOUNDARY: the timer takes the free boundary (R7). -/
  | freeBoundary
  /-- SELF_BOUNDARY: the timer takes the SYNC deadline (R14). -/
  | selfBoundary
  /-- RESTART_REQUEST_BOUNDARY: the timer makes the requested boundary (R17). -/
  | restartRequestBoundary
  /-- SYNC_EDGE: the timer takes the rising edge sampled at this tick (R10). -/
  | syncEdge
  /-- SELECT_ASSERT: the select of a port is asserted (R155). -/
  | selectAssert (p : Port)
  /-- EMPTY_EXCHANGE: select is released on an empty exchange (R156). -/
  | emptyExchange (p : Port)
  /-- READ: select is released on a READ (R158). -/
  | read (p : Port) (stray : Nat)
  /-- WRITE_DEMAND: select is released on a WRITE of DEMAND (R38, R39). -/
  | writeDemand (p : Port) (stray : Nat)
  /-- WRITE_HOLD_SET: select is released on a WRITE of HOLD_SET (R45). -/
  | writeHoldSet (p : Port) (stray : Nat)
  /-- WRITE_REPORT: select is released on a WRITE of REPORT (R61). -/
  | writeReport (p : Port) (stray : Nat)
  /-- WRITE_PLAN_STAGED: select is released on a WRITE of PLAN_STAGED (R128). -/
  | writePlanStaged (p : Port) (stray : Nat)
  /-- WRITE_SEED: select is released on a WRITE of SEED (R122). -/
  | writeSeed (p : Port) (stray : Nat)
  /-- WRITE_EVENT_MASK: select is released on a WRITE of EVENT_MASK (R173). -/
  | writeEventMask (p : Port) (stray : Nat)
  /-- WRITE_PORT_STATUS: select is released on a WRITE of PORT_STATUS (R163). -/
  | writePortStatus (p : Port) (stray : Nat)
  /-- WRITE: select is released on a WRITE of a class with no write behaviour of its own (R161). -/
  | write (p : Port) (stray : Nat)
  /-- COMMIT: select is released on a COMMIT (R131). -/
  | commit (p : Port) (stray : Nat)
  /-- WITHDRAW: select is released on a WITHDRAW (R139). -/
  | withdraw (p : Port) (stray : Nat)
  /-- ACK: select is released on an ACK (R175). -/
  | ack (p : Port) (stray : Nat)
  /-- RESTART: select is released on a RESTART (R149). -/
  | restart (p : Port) (stray : Nat)
  /-- TICK: 0.1 ms passes, and SYNC is sampled at the level `sync` (R1, R10). -/
  | tick (sync : Bool)
  /-- BYTE_TAKEN: the eighth bit of the byte `v` has been sampled at a port (R154). -/
  | byteTaken (p : Port) (v : Byte)
  /-- UNKNOWN_COMMAND: select is released on an exchange with no known command (R161). -/
  | unknownCommand (p : Port) (stray : Nat)
  deriving DecidableEq, Repr

end Sys2Proof
end

