-- ==== Sys2Proof/Config.lean ====
section
/-! DEFINITION. What the spec fixes for every NB330 (limits, defaults before section C is live, codes), and the one
value it leaves open. -/

namespace Sys2Proof.Config

/-- F_MAX, the greatest force that is a number, in N (R18, R24). -/
def fMax : Nat := 400000

/-- Ticks of the start interval (R6). -/
def startTicks : Nat := 200

/-- Ticks of the guard, and the tick of a requested RESTART boundary (R1, R17). -/
def guardTicks : Nat := 20

/-- P before section C is first live, in ms (R3). -/
def defaultP : Nat := 20

/-- Q before section C is first live, in ms (R3). -/
def defaultQ : Nat := 10

/-- The soft age before section C is first live (R42). -/
def defaultSoftAge : Nat := 3

/-- The hard age before section C is first live (R42). -/
def defaultHardAge : Nat := 10

/-- The ambient before the first VEHICLE write, in degrees C (R64). -/
def defaultAmbient : Int := 25

/-- Units of a heat account in one degree C (R19). -/
def heatUnit : Int := 65536

/-- The ceiling of a heat account, 900 degrees C in units (R115). -/
def heatCeiling : Int := 900 * 65536

/-- The floor of a heat account, -40 degrees C in units (R108, R115). -/
def heatFloor : Int := -40 * 65536

/-- SET_SPEED after device reset and RESTART, in 0.1 km/h (R45, R59). -/
def defaultSetSpeed : Nat := 800

/-- The most data bytes a port stores (R159). -/
def maxData : Nat := 33

/-- VENDOR_CODE of IDENT (R164). -/
def vendorCode : Nat := 0x2E41

/-- PART_CODE of IDENT (R164). -/
def partCode : Nat := 0x0330

/-- REVISION of IDENT (R164). -/
def revision : Nat := 1

/-- FREE VALUE (assumption 2). Where a SYNC edge and a timer position fall on one tick and the sender leaves both to
the next TICK, whether the edge is taken first: R12 and R13 allow either order. The argument counts the draws. -/
opaque syncEdgeFirst : Nat → Bool

end Sys2Proof.Config
end

