-- ==== Sys2Proof/Machine/State.lean ====
section
/-! DEFINITION. The state of the NB330, block by block, as plain data; its reasons to stop; and the state at reset
release. Each structure names the rule of spec/ that gives the block's state. -/

namespace Sys2Proof.Machine

open Sys2Proof

/-- One value for each port. -/
structure PerPort (α : Type) where
  e : α
  t : α
  b : α
  c : α
  deriving DecidableEq, Repr

/-- The three friction-braked axles: 0 front, 1 drive, 2 tag (spec 00). -/
inductive Axle where
  | front | drive | tag
  deriving DecidableEq, Repr

/-- One value for each axle. -/
structure PerAxle (α : Type) where
  front : α
  drive : α
  tag : α
  deriving DecidableEq, Repr

/-! ### Period timer (R1) -/

/-- Where the current period stands (R2). -/
inductive Phase where
  | start | guarding | openPhase | closed
  deriving DecidableEq, Repr

/-- How a period's boundary is made (R4). -/
inductive SyncMode where
  | free | synced
  deriving DecidableEq, Repr

/-- The state of the period timer (R1), with the previous SYNC sample and the edge sampled at this tick and not yet
taken (R10). -/
structure Timer where
  counter : Nat
  phase : Phase
  mode : SyncMode
  p : Nat
  q : Nat
  delta : Option Nat
  index : Nat
  runCount : Nat
  restartReq : Bool
  syncPrev : Bool
  syncEdge : Bool
  deriving DecidableEq, Repr

/-! ### Plan store (R126, R127) -/

/-- One point of a curve (R34). -/
structure Point where
  x : Int
  y : Int
  deriving DecidableEq, Repr

/-- Section E: E.MAIN and E.CURVE (R127). -/
structure PlanE where
  rampRate : Nat
  rounding : Nat
  curve : List Point
  deriving DecidableEq, Repr

/-- Section T: T.MAIN and T.CURVE (R127). -/
structure PlanT where
  rampRate : Nat
  axleRatio : Nat
  radius : Nat
  shiftMax : Nat
  rounding : Nat
  curve : List Point
  deriving DecidableEq, Repr

/-- One of B.AXLE0 to B.AXLE2 (R127). -/
structure AxlePlan where
  gain : Nat
  baseShare : Nat
  cTh : Nat
  lambda : Nat
  deriving DecidableEq, Repr

/-- Section B: B.MAIN, B.AXLE0 to B.AXLE2 and B.FADE (R127). -/
structure PlanB where
  warmOn : Nat
  hotOn : Nat
  fadeOn : Nat
  hyst : Nat
  slipHold : Nat
  rounding : Nat
  axles : PerAxle AxlePlan
  fade : List Point
  deriving DecidableEq, Repr

/-- The five values of C.STALK (R44, R127). -/
structure Stalk where
  stage1 : Nat
  stage2 : Nat
  stage3 : Nat
  stage4 : Nat
  stage5 : Nat
  deriving DecidableEq, Repr

/-- Section C: C.MAIN and C.STALK (R127). -/
structure PlanC where
  p : Nat
  q : Nat
  syncMode : Nat
  order : Nat
  softAge : Nat
  hardAge : Nat
  driveShare : Nat
  mu : Nat
  nominalMass : Nat
  kp : Nat
  ki : Nat
  holdMax : Nat
  shortThreshold : Nat
  shortCount : Nat
  fallbackSpeed : Nat
  rounding : Nat
  stalk : Stalk
  deriving DecidableEq, Repr

/-- A section: its staged copy, its live copy or none, and its commit-pending mark (R126). -/
structure Section (α : Type) where
  staged : α
  live : Option α
  pending : Bool
  deriving DecidableEq, Repr

/-- The state of the plan store (R126). -/
structure PlanStore where
  e : Section PlanE
  t : Section PlanT
  b : Section PlanB
  c : Section PlanC
  stepE : Option Nat
  stepT : Option Nat
  deriving DecidableEq, Repr

/-! ### Report intake (R60) -/

/-- The state of a report record (R60). -/
inductive ReportState where
  | absent | fresh | aging | expired
  deriving DecidableEq, Repr

/-- A report that ages: its state, age, refresh mark and fields (R60). -/
structure Report (α : Type) where
  state : ReportState
  age : Nat
  mark : Bool
  fields : α
  deriving DecidableEq, Repr

/-- The fields of EXHAUST (R61). -/
structure ExhaustFields where
  rpm : Nat
  avail : Nat
  achieved : Option Int
  deriving DecidableEq, Repr

/-- The fields of TRANS (R61). -/
structure TransFields where
  rpm : Nat
  avail : Nat
  achieved : Option Int
  gear : Nat
  shifting : Bool
  deriving DecidableEq, Repr

/-- The fields of AXLES for one axle (R61). -/
structure AxleReport where
  pmax : Nat
  achieved : Option Nat
  slip : Bool
  deriving DecidableEq, Repr

/-- The fields of AXLES (R61). -/
structure AxlesFields where
  speed : Nat
  axle : PerAxle AxleReport
  deriving DecidableEq, Repr

/-- VEHICLE, which is ABSENT or FRESH and does not age (R60, R64). -/
structure VehicleReport where
  written : Bool
  mass : Nat
  ambient : Int
  deriving DecidableEq, Repr

/-- The four report records (R60), and the latched copy of them (R62). -/
structure Reports where
  exhaust : Report ExhaustFields
  trans : Report TransFields
  axles : Report AxlesFields
  vehicle : VehicleReport
  deriving DecidableEq, Repr

/-! ### Demand resolver (R37) -/

/-- A written entry of the demand table that is not EMPTY (R37). -/
structure DemandEntry where
  value : Nat
  age : Nat
  mark : Bool
  deriving DecidableEq, Repr

/-- The demand table, HOLD_SET and the speed-hold integrator (R37, R45, R48). An EMPTY entry is none. -/
structure Demand where
  pedal : Option DemandEntry
  stalk : Option DemandEntry
  hold : Option Nat
  holdEnabled : Bool
  setSpeed : Nat
  integrator : Nat
  deriving DecidableEq, Repr

/-! ### Heat estimator (R108) -/

/-- The grade of a heat account, lowest first (R108). -/
inductive HeatState where
  | cool | warm | hot | fade
  deriving DecidableEq, Repr

/-- A heat account (R108); `temp` is in 1/65536 degrees C. -/
structure HeatAccount where
  temp : Int
  state : HeatState
  seeded : Bool
  sat : Bool
  deriving DecidableEq, Repr

/-- The three accounts and the last valid speed (R108). -/
structure Heat where
  accounts : PerAxle HeatAccount
  lastSpeed : Nat
  deriving DecidableEq, Repr

/-! ### Capability evaluator (R66) -/

/-- Shift state (R66). -/
inductive ShiftState where
  | idle | gap
  deriving DecidableEq, Repr

/-- Slip state (R66). -/
inductive SlipState where
  | off | cut | hold
  deriving DecidableEq, Repr

/-- The evaluator's own state (R66). -/
structure Capability where
  shift : ShiftState
  shiftElapsed : Nat
  armed : Bool
  stale : Bool
  slip : SlipState
  holdElapsed : Nat
  deriving DecidableEq, Repr

/-! ### Apportioner (R81) -/

/-- The engine state (R143). -/
inductive EngineState where
  | unplanned | running | fallback
  deriving DecidableEq, Repr

/-- The flags of an actuator record (R100). -/
structure GrantFlags where
  ramped : Bool
  capped : Bool
  slipCut : Bool
  shiftGap : Bool
  aging : Bool
  expired : Bool
  novalue : Bool
  frozen : Bool
  deriving DecidableEq, Repr

/-- What an actuator record holds of its own (R99). -/
structure ActuatorGrant where
  grantN : Nat
  units : Nat
  capacity : Nat
  flags : GrantFlags
  deriving DecidableEq, Repr

/-- What the summary record holds of its own (R101). -/
structure Summary where
  state : EngineState
  d : Nat
  dSvc : Nat
  eCap : Nat
  xE : Nat
  xR : Nat
  s : Nat
  shortfall : Nat
  holdValue : Nat
  deriving DecidableEq, Repr

/-- A grant set: six records, which share one PERIOD_INDEX and one VALID (R99). -/
structure GrantSet where
  periodIndex : Nat
  valid : Bool
  exhaust : ActuatorGrant
  retarder : ActuatorGrant
  service : PerAxle ActuatorGrant
  summary : Summary
  deriving DecidableEq, Repr

/-- The apportioner's state (R81). -/
structure Apportioner where
  pendingSet : Option GrantSet
  published : GrantSet
  prevE : Nat
  prevR : Nat
  runCount : Nat
  runPosted : Bool
  engine : EngineState
  deriving DecidableEq, Repr

/-! ### Port controllers (R154) -/

/-- The phase of an exchange (R154). -/
inductive ExchangePhase where
  | idle | inPrefix | inIndex | inWait | readOut | ended | dataIn
  deriving DecidableEq, Repr

/-- The collected exchange (R154): bits counted, H0, H1, the wait byte of a READ, the data bytes stored, how many data
bytes came, and the termination and overrun marks of a READ. -/
structure Exchange where
  bits : Nat
  h0 : Option Byte
  h1 : Option Byte
  wait : Option Byte
  data : List Byte
  count : Nat
  terminated : Bool
  overrun : Bool
  deriving DecidableEq, Repr

/-- The result codes, in the order of their numbers 0 to 13 (R163). -/
inductive ResultCode where
  | none | ok | seedPartial | framing | wait | unterminated | overrun | unknown | length | owner | pending | invalid
  | range | state
  deriving DecidableEq, Repr

/-- The last result of a port (R154). -/
structure LastResult where
  command : Nat
  cls : Nat
  index : Nat
  code : ResultCode
  detail1 : Nat
  detail2 : Nat
  detail3 : Nat
  deriving DecidableEq, Repr

/-- What a port drives on DO (R154, R155): high impedance, the status level, or the byte shifted out. -/
inductive DataOut where
  | highZ
  | status (good : Bool)
  | byte (v : Byte)
  deriving DecidableEq, Repr

/-- A port controller (R154), with the level of its select, the bitmap of the exchange (R156) and its data output. A
select that is asserted while the phase is IDLE is one that stood at reset release, and is no exchange (R155). -/
structure PortControl where
  sel : Bool
  dout : DataOut
  phase : ExchangePhase
  xch : Exchange
  snapshot : Option (List Byte)
  bitmap : KindBits
  status : Bool
  errors : Nat
  last : LastResult
  deriving DecidableEq, Repr

/-! ### Event units (R170) -/

/-- The sixteen event kinds, in the order of their numbers (R167). -/
inductive EventKind where
  | refresh | expired | novalue | shortfall | shiftLong | slipCut | heatState | heatSat | planApplied | syncLost
  | syncEarly | stateChange | massClamp | holdDropped | published | seedWanted
  deriving DecidableEq, Repr

/-- One count for each event kind (R170). -/
structure EventCounts where
  refresh : Nat
  expired : Nat
  novalue : Nat
  shortfall : Nat
  shiftLong : Nat
  slipCut : Nat
  heatState : Nat
  heatSat : Nat
  planApplied : Nat
  syncLost : Nat
  syncEarly : Nat
  stateChange : Nat
  massClamp : Nat
  holdDropped : Nat
  published : Nat
  seedWanted : Nat
  deriving DecidableEq, Repr

/-- An event unit: counts and enable mask (R170). -/
structure EventUnit where
  counts : EventCounts
  mask : KindBits
  deriving DecidableEq, Repr

/-! ### The whole part -/

/-- The state of the NB330: RESET, its blocks, and the queue of waiting commands, first in first out. `tieDraws` counts
the free values drawn (assumption 2); it and `pending` are the model's own. -/
structure State where
  resetHeld : Bool
  timer : Timer
  plan : PlanStore
  reports : Reports
  latched : Reports
  demand : Demand
  heat : Heat
  cap : Capability
  app : Apportioner
  ports : PerPort PortControl
  events : PerPort EventUnit
  tieDraws : Nat
  pending : List Instr
  deriving DecidableEq, Repr

/-- Reasons to stop with a fault: none. The spec gives the part no condition that stops it; a failed exchange is a
next state (R162). -/
inductive Fault where
  deriving DecidableEq, Repr

/-- Reasons to refuse a command. -/
inductive Refusal where
  /-- A command whose meaning is not written yet: raised by exec's arm alone. No arm of this model raises it. Safe: the
  model stops where the part goes on. -/
  | notModelled (mnemonic : String)
  deriving DecidableEq, Repr

/-! ### Reset values -/

/-- The timer at reset release, SYNC low (R6; the level of SYNC: assumption 5). -/
def Timer.reset : Timer :=
  { counter := 0, phase := .start, mode := .free, p := Config.defaultP, q := Config.defaultQ, delta := none,
    index := 0, runCount := 0, restartReq := false, syncPrev := false, syncEdge := false }

/-- Section E with every field 0 (R142). -/
def PlanE.zero : PlanE := { rampRate := 0, rounding := 0, curve := [] }

/-- Section T with every field 0 (R142). -/
def PlanT.zero : PlanT := { rampRate := 0, axleRatio := 0, radius := 0, shiftMax := 0, rounding := 0, curve := [] }

/-- An axle part with every field 0 (R142). -/
def AxlePlan.zero : AxlePlan := { gain := 0, baseShare := 0, cTh := 0, lambda := 0 }

/-- Section B with every field 0 (R142). -/
def PlanB.zero : PlanB :=
  { warmOn := 0, hotOn := 0, fadeOn := 0, hyst := 0, slipHold := 0, rounding := 0,
    axles := { front := AxlePlan.zero, drive := AxlePlan.zero, tag := AxlePlan.zero }, fade := [] }

/-- C.STALK with every field 0 (R142). -/
def Stalk.zero : Stalk := { stage1 := 0, stage2 := 0, stage3 := 0, stage4 := 0, stage5 := 0 }

/-- Section C with every field 0 (R142). -/
def PlanC.zero : PlanC :=
  { p := 0, q := 0, syncMode := 0, order := 0, softAge := 0, hardAge := 0, driveShare := 0, mu := 0,
    nominalMass := 0, kp := 0, ki := 0, holdMax := 0, shortThreshold := 0, shortCount := 0, fallbackSpeed := 0,
    rounding := 0, stalk := Stalk.zero }

/-- The plan store after device reset (R142). -/
def PlanStore.reset : PlanStore :=
  { e := { staged := PlanE.zero, live := none, pending := false },
    t := { staged := PlanT.zero, live := none, pending := false },
    b := { staged := PlanB.zero, live := none, pending := false },
    c := { staged := PlanC.zero, live := none, pending := false },
    stepE := none, stepT := none }

/-- EXHAUST fields of a record not written (R60). -/
def ExhaustFields.zero : ExhaustFields := { rpm := 0, avail := 0, achieved := none }

/-- TRANS fields of a record not written (R60). -/
def TransFields.zero : TransFields := { rpm := 0, avail := 0, achieved := none, gear := 0, shifting := false }

/-- One axle's fields of an AXLES record not written (R60). -/
def AxleReport.zero : AxleReport := { pmax := 0, achieved := none, slip := false }

/-- AXLES fields of a record not written (R60). -/
def AxlesFields.zero : AxlesFields :=
  { speed := 0, axle := { front := AxleReport.zero, drive := AxleReport.zero, tag := AxleReport.zero } }

/-- A record in the ABSENT state (R60). -/
def Report.absent {α : Type} (zero : α) : Report α := { state := .absent, age := 0, mark := false, fields := zero }

/-- The reports after device reset (R60); also the latched copy before the first boundary (assumption 6). -/
def Reports.reset : Reports :=
  { exhaust := Report.absent ExhaustFields.zero, trans := Report.absent TransFields.zero,
    axles := Report.absent AxlesFields.zero, vehicle := { written := false, mass := 0, ambient := 0 } }

/-- The demand resolver after device reset, and after RESTART (R58, R59). -/
def Demand.reset : Demand :=
  { pedal := none, stalk := none, hold := none, holdEnabled := false, setSpeed := Config.defaultSetSpeed,
    integrator := 0 }

/-- A heat account after device reset: 150 degrees C (R109). -/
def HeatAccount.reset : HeatAccount := { temp := 9830400, state := .cool, seeded := false, sat := false }

/-- The heat estimator after device reset (R109). -/
def Heat.reset : Heat :=
  { accounts := { front := HeatAccount.reset, drive := HeatAccount.reset, tag := HeatAccount.reset }, lastSpeed := 0 }

/-- The capability evaluator after device reset (R80). -/
def Capability.reset : Capability :=
  { shift := .idle, shiftElapsed := 0, armed := true, stale := false, slip := .off, holdElapsed := 0 }

/-- No flag set (R100). -/
def GrantFlags.clear : GrantFlags :=
  { ramped := false, capped := false, slipCut := false, shiftGap := false, aging := false, expired := false,
    novalue := false, frozen := false }

/-- An actuator record of zeros (R103, R106). -/
def ActuatorGrant.zero : ActuatorGrant := { grantN := 0, units := 0, capacity := 0, flags := GrantFlags.clear }

/-- A set of zeros with VALID clear, that shows an engine state and an index (R81, R103, R106). -/
def GrantSet.zero (state : EngineState) (index : Nat) : GrantSet :=
  { periodIndex := index, valid := false, exhaust := ActuatorGrant.zero, retarder := ActuatorGrant.zero,
    service := { front := ActuatorGrant.zero, drive := ActuatorGrant.zero, tag := ActuatorGrant.zero },
    summary := { state := state, d := 0, dSvc := 0, eCap := 0, xE := 0, xR := 0, s := 0, shortfall := 0,
                 holdValue := 0 } }

/-- The apportioner after device reset (R81). -/
def Apportioner.reset : Apportioner :=
  { pendingSet := none, published := GrantSet.zero .unplanned 0, prevE := 0, prevR := 0, runCount := 0,
    runPosted := false, engine := .unplanned }

/-- No exchange collected (R154). -/
def Exchange.empty : Exchange :=
  { bits := 0, h0 := none, h1 := none, wait := none, data := [], count := 0, terminated := false, overrun := false }

/-- A port controller after device reset (R154), its select released. -/
def PortControl.reset : PortControl :=
  { sel := false, dout := .highZ, phase := .idle, xch := Exchange.empty, snapshot := none,
    bitmap := 0, status := true, errors := 0,
    last := { command := 0, cls := 0, index := 0, code := .none, detail1 := 0, detail2 := 0, detail3 := 0 } }

/-- Every count 0. -/
def EventCounts.zero : EventCounts :=
  { refresh := 0, expired := 0, novalue := 0, shortfall := 0, shiftLong := 0, slipCut := 0, heatState := 0,
    heatSat := 0, planApplied := 0, syncLost := 0, syncEarly := 0, stateChange := 0, massClamp := 0,
    holdDropped := 0, published := 0, seedWanted := 0 }

/-- An event unit of port E, T or C after device reset: every kind but PUBLISHED is enabled (R173, R177). -/
def EventUnit.reset : EventUnit := { counts := EventCounts.zero, mask := 0xBFFF#16 }

/-- The event unit of port B after device reset: SEED_WANTED stands at 1 (R125, R177). -/
def EventUnit.resetB : EventUnit := { EventUnit.reset with counts := { EventCounts.zero with seedWanted := 1 } }

/-- The part at reset release, with SYNC low, every select released and no command waiting (R6, R58, R60, R80, R81,
R109, R142, R154, R177). -/
def State.reset : State :=
  { resetHeld := false, timer := Timer.reset, plan := PlanStore.reset, reports := Reports.reset,
    latched := Reports.reset, demand := Demand.reset, heat := Heat.reset, cap := Capability.reset,
    app := Apportioner.reset,
    ports := { e := PortControl.reset, t := PortControl.reset, b := PortControl.reset, c := PortControl.reset },
    events := { e := EventUnit.reset, t := EventUnit.reset, b := EventUnit.resetB, c := EventUnit.reset },
    tieDraws := 0, pending := [] }

end Sys2Proof.Machine
end

