-- ==== Sys2Proof/Machine/Operands.lean ====
section
/-! DEFINITION. How fields lie in the bytes of an exchange (R166: most significant byte first, signed fields in two's
complement, a flag one byte), and how a value is brought into its range (R18). -/

namespace Sys2Proof.Machine

open Sys2Proof

/-! ### Fields taken from data bytes -/

/-- The one-byte field at an offset. -/
def byteAt (d : List Byte) (i : Nat) : Nat := (d.getD i 0).toNat

/-- The two-byte field at an offset. -/
def word16At (d : List Byte) (i : Nat) : Nat := byteAt d i * 256 + byteAt d (i + 1)

/-- The signed two-byte field at an offset. -/
def signed16At (d : List Byte) (i : Nat) : Int :=
  if word16At d i < 32768 then (word16At d i : Int) else (word16At d i : Int) - 65536

/-- The four-byte field at an offset. -/
def word32At (d : List Byte) (i : Nat) : Nat := word16At d i * 65536 + word16At d (i + 2)

/-- The flag at an offset: any value other than 0 counts as set. -/
def flagAt (d : List Byte) (i : Nat) : Bool := byteAt d i != 0

/-- The two bytes of a mask or bitmap, bits 15..8 first (R167). -/
def kindBitsAt (d : List Byte) (i : Nat) : KindBits := BitVec.ofNat 16 (word16At d i)

/-! ### Fields sent as data bytes -/

/-- A one-byte field. -/
def send8 (n : Nat) : List Byte := [BitVec.ofNat 8 n]

/-- A two-byte field. -/
def send16 (n : Nat) : List Byte := [BitVec.ofNat 8 (n / 256), BitVec.ofNat 8 n]

/-- A signed two-byte field. -/
def sendSigned16 (v : Int) : List Byte := send16 (v % 65536).toNat

/-- A four-byte field. -/
def send32 (n : Nat) : List Byte := send16 (n / 65536) ++ send16 (n % 65536)

/-- A flag. -/
def sendFlag (f : Bool) : List Byte := send8 (if f then 1 else 0)

/-! ### Ranges -/

/-- The value brought into lo..hi (R18). -/
def clampNat (lo hi n : Nat) : Nat := max lo (min hi n)

/-- The signed value brought into lo..hi (R18). -/
def clampInt (lo hi n : Int) : Int := max lo (min hi n)

/-- Whether a value lies in lo..hi, both ends in (R18). -/
def inRange (lo hi n : Nat) : Bool := decide (lo ≤ n) && decide (n ≤ hi)

/-- Whether a signed value lies in lo..hi, both ends in (R18). -/
def inRangeInt (lo hi n : Int) : Bool := decide (lo ≤ n) && decide (n ≤ hi)

end Sys2Proof.Machine
end

