-- ==== Sys2Proof/Machine/Convert.lean ====
section
/-! DEFINITION. The conversion unit: rounding, NOVALUE and clamping, torque, force and pressure conversions, curves and
derates (spec 02, R19 to R36). It holds no state. -/

namespace Sys2Proof.Machine

open Sys2Proof

/-- The four rounding modes (R21). -/
inductive Rounding where
  | nearestEven | towardZero | down | up
  deriving DecidableEq, Repr

/-- The mode that a ROUNDING field codes (R22); a live field holds 0..3 (R132). -/
def roundingOfCode : Nat → Rounding
  | 0 => .nearestEven
  | 1 => .towardZero
  | 2 => .down
  | _ => .up

/-- The quotient n / d rounded by a mode, for d above 0 (R21). -/
def roundDiv (m : Rounding) (n d : Int) : Int :=
  let q := n / d
  let r := n % d
  if r = 0 then q
  else match m with
    | .down => q
    | .up => q + 1
    | .towardZero => if 0 ≤ n then q else q + 1
    | .nearestEven => if 2 * r < d then q else if d < 2 * r then q + 1 else if q % 2 = 0 then q else q + 1

/-- A force result: a number of N, or NOVALUE (R24). -/
inductive Force where
  | newtons (n : Nat)
  | novalue
  deriving DecidableEq, Repr

/-- A rounded quotient as a force: above F_MAX it is NOVALUE (R24), below 0 it is 0 (R26). -/
def forceOf (q : Int) : Force := if (Config.fMax : Int) < q then .novalue else .newtons q.toNat

/-- The force as a number, NOVALUE taken as 0, as a capacity takes it (R24). -/
def Force.orZero : Force → Nat
  | .newtons n => n
  | .novalue => 0

/-- The force as a number, NOVALUE taken as absent, as an achieved force takes it (R24). -/
def Force.orAbsent : Force → Option Nat
  | .newtons n => some n
  | .novalue => none

/-- Whether a force is NOVALUE. -/
def Force.isNovalue : Force → Bool
  | .newtons _ => false
  | .novalue => true

/-- Retarder torque to force, with A the axle ratio and r the radius (R27). -/
def retarderForce (m : Rounding) (torque : Int) (a r : Nat) : Force :=
  forceOf (roundDiv m (torque * a * 1000) (256 * r))

/-- Exhaust torque to force, with G the gear ratio; 0 with no division when G is 0 (R28). -/
def exhaustForce (m : Rounding) (torque : Int) (g a r : Nat) : Force :=
  if g = 0 then .newtons 0 else forceOf (roundDiv m (torque * g * a * 1000) (65536 * r))

/-- Retarder grant force to torque, toward zero, at most 32,767 Nm (R29). -/
def retarderTorque (f a r : Nat) : Nat := min 32767 (f * 256 * r / (a * 1000))

/-- Exhaust grant force to torque, toward zero, at most 32,767 Nm; 0 when G is 0 (R29). -/
def exhaustTorque (f g a r : Nat) : Nat := if g = 0 then 0 else min 32767 (f * 65536 * r / (g * a * 1000))

/-- Pressure to force, exact (R31). -/
def pressureForce (p k : Nat) : Force := forceOf ((p * k : Nat) : Int)

/-- Service grant force to pressure, rounded up, at most 1200 kPa (R32). -/
def pressureGrant (s k : Nat) : Nat := min 1200 (roundDiv .up s k).toNat

/-- Deceleration to force (R33). -/
def demandForce (m : Rounding) (mass a : Nat) : Nat := (roundDiv m ((mass * a : Nat) : Int) 1000).toNat

/-- A curve evaluated at x: held beyond its ends, interpolated between its points (R34). -/
def curveAt (m : Rounding) (x : Int) : List Point → Int
  | [] => 0
  | [p] => p.y
  | p :: q :: rest =>
    if x ≤ p.x then p.y
    else if x < q.x then p.y + roundDiv m ((q.y - p.y) * (x - p.x)) (q.x - p.x)
    else curveAt m x (q :: rest)

/-- A derate by a percentage, toward zero (R36): availability and fade. -/
def deratePercent (f percent : Nat) : Nat := f * percent / 100

/-- The soft-age derate, applied only to a capacity from an aging report (R36). -/
def derateAge (isAging : Bool) (f : Nat) : Nat := if isAging then f / 2 else f

/-- A heat account's temperature in whole degrees C, rounded down (R19). -/
def wholeDegrees (temp : Int) : Int := temp / Config.heatUnit

/-- A heat account's temperature in 1/16 degree C, rounded down (R19). -/
def sixteenths (temp : Int) : Int := temp / 4096

end Sys2Proof.Machine
end

