-- ==== Sys2Proof/Machine/Ops.lean ====
section
/-! DEFINITION. Reading and changing one port's or one axle's part of the state. -/

namespace Sys2Proof.Machine

open Sys2Proof

/-- The value of a port. -/
def PerPort.get {α : Type} (x : PerPort α) : Port → α
  | .e => x.e
  | .t => x.t
  | .b => x.b
  | .c => x.c

/-- The same values but for one port's. -/
def PerPort.set {α : Type} (x : PerPort α) (p : Port) (v : α) : PerPort α :=
  match p with
  | .e => { x with e := v }
  | .t => { x with t := v }
  | .b => { x with b := v }
  | .c => { x with c := v }

/-- Each port's value changed by a function of its own. -/
def PerPort.map {α β : Type} (f : Port → α → β) (x : PerPort α) : PerPort β :=
  { e := f .e x.e, t := f .t x.t, b := f .b x.b, c := f .c x.c }

/-- The value of an axle. -/
def PerAxle.get {α : Type} (x : PerAxle α) : Axle → α
  | .front => x.front
  | .drive => x.drive
  | .tag => x.tag

/-- Each axle's value changed by a function of its own. -/
def PerAxle.map {α β : Type} (f : Axle → α → β) (x : PerAxle α) : PerAxle β :=
  { front := f .front x.front, drive := f .drive x.drive, tag := f .tag x.tag }

/-- A value for each axle. -/
def PerAxle.build {α : Type} (f : Axle → α) : PerAxle α := { front := f .front, drive := f .drive, tag := f .tag }

/-- The number of a port: 0 E, 1 T, 2 B, 3 C (R157). -/
def portNumber : Port → Nat
  | .e => 0
  | .t => 1
  | .b => 2
  | .c => 3

/-- The port of a number 0..3; the numbers above have none (R157). -/
def portOfNumber : Nat → Option Port
  | 0 => some .e
  | 1 => some .t
  | 2 => some .b
  | 3 => some .c
  | _ => none

/-- All four ports. -/
def allPorts : List Port := [.e, .t, .b, .c]

/-- The state of a port controller. -/
def State.port (s : State) (p : Port) : PortControl := s.ports.get p

/-- The same state but for one port controller. -/
def State.setPort (s : State) (p : Port) (v : PortControl) : State := { s with ports := s.ports.set p v }

end Sys2Proof.Machine
end

