-- ==== Sys2Proof/Machine/Flags.lean ====
section
/-! DEFINITION. The event units: counts, postings, the pending-event bitmap and the attention line (R156, R170 to
R172, R175). -/

namespace Sys2Proof.Machine

open Sys2Proof

/-- The sixteen kinds in the order of their numbers (R167). -/
def allKinds : List EventKind :=
  [.refresh, .expired, .novalue, .shortfall, .shiftLong, .slipCut, .heatState, .heatSat, .planApplied, .syncLost,
   .syncEarly, .stateChange, .massClamp, .holdDropped, .published, .seedWanted]

/-- The number of a kind (R167). -/
def kindNumber : EventKind → Nat
  | .refresh => 0
  | .expired => 1
  | .novalue => 2
  | .shortfall => 3
  | .shiftLong => 4
  | .slipCut => 5
  | .heatState => 6
  | .heatSat => 7
  | .planApplied => 8
  | .syncLost => 9
  | .syncEarly => 10
  | .stateChange => 11
  | .massClamp => 12
  | .holdDropped => 13
  | .published => 14
  | .seedWanted => 15

/-- The count of a kind. -/
def EventCounts.get (c : EventCounts) : EventKind → Nat
  | .refresh => c.refresh
  | .expired => c.expired
  | .novalue => c.novalue
  | .shortfall => c.shortfall
  | .shiftLong => c.shiftLong
  | .slipCut => c.slipCut
  | .heatState => c.heatState
  | .heatSat => c.heatSat
  | .planApplied => c.planApplied
  | .syncLost => c.syncLost
  | .syncEarly => c.syncEarly
  | .stateChange => c.stateChange
  | .massClamp => c.massClamp
  | .holdDropped => c.holdDropped
  | .published => c.published
  | .seedWanted => c.seedWanted

/-- Each count changed by a function of its kind. -/
def EventCounts.map (f : EventKind → Nat → Nat) (c : EventCounts) : EventCounts :=
  { refresh := f .refresh c.refresh, expired := f .expired c.expired, novalue := f .novalue c.novalue,
    shortfall := f .shortfall c.shortfall, shiftLong := f .shiftLong c.shiftLong, slipCut := f .slipCut c.slipCut,
    heatState := f .heatState c.heatState, heatSat := f .heatSat c.heatSat,
    planApplied := f .planApplied c.planApplied, syncLost := f .syncLost c.syncLost,
    syncEarly := f .syncEarly c.syncEarly, stateChange := f .stateChange c.stateChange,
    massClamp := f .massClamp c.massClamp, holdDropped := f .holdDropped c.holdDropped,
    published := f .published c.published, seedWanted := f .seedWanted c.seedWanted }

/-- One posting raises a count by one; a count at 255 stays there (R171). -/
def bump (n : Nat) : Nat := min 255 (n + 1)

/-- One posting of a kind to this unit (R171). -/
def EventUnit.post (k : EventKind) (u : EventUnit) : EventUnit :=
  { u with counts := u.counts.map (fun k' n => if k' = k then bump n else n) }

/-- One posting of a kind to each of the ports named (R171). -/
def State.post (k : EventKind) (ps : List Port) (s : State) : State :=
  { s with events := s.events.map (fun p u => if p ∈ ps then u.post k else u) }

/-- A posting made only where a condition holds. -/
def State.postIf (cond : Bool) (k : EventKind) (ps : List Port) (s : State) : State :=
  if cond then s.post k ps else s

/-- Each count lowered by its echoed count, not below 0 (R175). -/
def EventUnit.acknowledge (echo : EventKind → Nat) (u : EventUnit) : EventUnit :=
  { u with counts := u.counts.map (fun k n => n - echo k) }

/-- The event bitmap: bit k set while the count of kind k is above 0, whatever the mask (R156, R167). -/
def EventUnit.bitmap (u : EventUnit) : KindBits :=
  allKinds.foldl (fun acc k => if u.counts.get k = 0 then acc else acc ||| BitVec.ofNat 16 (2 ^ kindNumber k)) 0#16

/-- Whether at least one kind is both pending and enabled (R172). -/
def EventUnit.wantsAttention (u : EventUnit) : Bool := u.bitmap &&& u.mask != 0#16

/-- Whether a port's attention output is asserted (driven low): released while RESET is held, and otherwise asserted
while a kind is pending and enabled there (R172). -/
def State.attention (s : State) (p : Port) : Bool := !s.resetHeld && (s.events.get p).wantsAttention

end Sys2Proof.Machine
end

