-- ==== Sys2Proof/Machine/Plan.lean ====
section
/-! DEFINITION. The plan store: the parts and their layouts, staged writes, the COMMIT checks, WITHDRAW, and the copy to
live (spec 07, R126 to R142). -/

namespace Sys2Proof.Machine

open Sys2Proof

/-! ### Parts and their layouts (R127, R166) -/

/-- The owner of the section that a part index belongs to (R127). -/
def partOwner (index : Nat) : Port :=
  if index ≤ 1 then .e else if index ≤ 3 then .t else if index ≤ 8 then .b else .c

/-- One copy of all four sections, staged or live. -/
structure PlanCopy where
  e : PlanE
  t : PlanT
  b : PlanB
  c : PlanC
  deriving DecidableEq, Repr

/-- The staged copies (R126). -/
def PlanStore.stagedCopy (s : PlanStore) : PlanCopy :=
  { e := s.e.staged, t := s.t.staged, b := s.b.staged, c := s.c.staged }

/-- The live copies, with zeros for a section that is not live, as a READ shows it (R130). -/
def PlanStore.liveShown (s : PlanStore) : PlanCopy :=
  { e := s.e.live.getD PlanE.zero, t := s.t.live.getD PlanT.zero, b := s.b.live.getD PlanB.zero,
    c := s.c.live.getD PlanC.zero }

/-- The bytes of an endurance curve: COUNT, then the points, x then y (R166). -/
def sendTorqueCurve (ps : List Point) : List Byte :=
  send8 ps.length ++ ps.flatMap (fun p => sendSigned16 p.x ++ sendSigned16 p.y)

/-- The bytes of the fade curve: COUNT, then the points, a signed x and a one-byte y (R166). -/
def sendFadeCurve (ps : List Point) : List Byte :=
  send8 ps.length ++ ps.flatMap (fun p => sendSigned16 p.x ++ send8 p.y.toNat)

/-- The bytes of an axle part (R166). -/
def sendAxlePlan (a : AxlePlan) : List Byte :=
  send16 a.gain ++ send16 a.baseShare ++ send32 a.cTh ++ send16 a.lambda

/-- The bytes of a part (R127, R166). -/
def sendPart (x : PlanCopy) : Nat → List Byte
  | 0 => send32 x.e.rampRate ++ send8 x.e.rounding
  | 1 => sendTorqueCurve x.e.curve
  | 2 => send32 x.t.rampRate ++ send16 x.t.axleRatio ++ send16 x.t.radius ++ send16 x.t.shiftMax ++
         send8 x.t.rounding
  | 3 => sendTorqueCurve x.t.curve
  | 4 => send16 x.b.warmOn ++ send16 x.b.hotOn ++ send16 x.b.fadeOn ++ send8 x.b.hyst ++ send16 x.b.slipHold ++
         send8 x.b.rounding
  | 5 => sendAxlePlan x.b.axles.front
  | 6 => sendAxlePlan x.b.axles.drive
  | 7 => sendAxlePlan x.b.axles.tag
  | 8 => sendFadeCurve x.b.fade
  | 9 => send8 x.c.p ++ send8 x.c.q ++ send8 x.c.syncMode ++ send8 x.c.order ++ send8 x.c.softAge ++
         send8 x.c.hardAge ++ send16 x.c.driveShare ++ send16 x.c.mu ++ send16 x.c.nominalMass ++ send8 x.c.kp ++
         send8 x.c.ki ++ send16 x.c.holdMax ++ send32 x.c.shortThreshold ++ send8 x.c.shortCount ++
         send16 x.c.fallbackSpeed ++ send8 x.c.rounding
  | 10 => send16 x.c.stalk.stage1 ++ send16 x.c.stalk.stage2 ++ send16 x.c.stalk.stage3 ++
          send16 x.c.stalk.stage4 ++ send16 x.c.stalk.stage5
  | _ => []

/-- The length of a curve part, from its COUNT; none when COUNT has not arrived or is above 8 (R129). -/
def curveLength (pointBytes : Nat) : List Byte → Option Nat
  | [] => none
  | n :: _ => if n.toNat ≤ 8 then some (1 + pointBytes * n.toNat) else none

/-- The write length that a part requires (R129, R166). -/
def partLength (index : Nat) (data : List Byte) : Option Nat :=
  match index with
  | 0 => some 5
  | 1 => curveLength 4 data
  | 2 => some 11
  | 3 => curveLength 4 data
  | 4 => some 10
  | 5 => some 10
  | 6 => some 10
  | 7 => some 10
  | 8 => curveLength 3 data
  | 9 => some 24
  | 10 => some 10
  | _ => none

/-- Points read from the bytes after COUNT, one by one. -/
def takePoints (pointBytes : Nat) (point : List Byte → Nat → Point) (data : List Byte) : List Point :=
  (List.range (byteAt data 0)).map (fun k => point data (1 + pointBytes * k))

/-- A point of an endurance curve: rpm, then Nm (R127). -/
def torquePoint (data : List Byte) (i : Nat) : Point := { x := word16At data i, y := word16At data (i + 2) }

/-- A point of the fade curve: signed degrees C, then % (R127). -/
def fadePoint (data : List Byte) (i : Nat) : Point := { x := signed16At data i, y := byteAt data (i + 2) }

/-- An axle part from its bytes (R127). -/
def axlePlanOf (d : List Byte) : AxlePlan :=
  { gain := word16At d 0, baseShare := word16At d 2, cTh := word32At d 4, lambda := word16At d 8 }

/-- The staged copy with one part replaced, as written (R128). -/
def PlanStore.writePart (s : PlanStore) (index : Nat) (d : List Byte) : PlanStore :=
  match index with
  | 0 => { s with e := { s.e with staged := { s.e.staged with rampRate := word32At d 0, rounding := byteAt d 4 } } }
  | 1 => { s with e := { s.e with staged := { s.e.staged with curve := takePoints 4 torquePoint d } } }
  | 2 => { s with t := { s.t with staged := { s.t.staged with
             rampRate := word32At d 0, axleRatio := word16At d 4, radius := word16At d 6, shiftMax := word16At d 8,
             rounding := byteAt d 10 } } }
  | 3 => { s with t := { s.t with staged := { s.t.staged with curve := takePoints 4 torquePoint d } } }
  | 4 => { s with b := { s.b with staged := { s.b.staged with
             warmOn := word16At d 0, hotOn := word16At d 2, fadeOn := word16At d 4, hyst := byteAt d 6,
             slipHold := word16At d 7, rounding := byteAt d 9 } } }
  | 5 => { s with b := { s.b with staged := { s.b.staged with axles := { s.b.staged.axles with
             front := axlePlanOf d } } } }
  | 6 => { s with b := { s.b with staged := { s.b.staged with axles := { s.b.staged.axles with
             drive := axlePlanOf d } } } }
  | 7 => { s with b := { s.b with staged := { s.b.staged with axles := { s.b.staged.axles with
             tag := axlePlanOf d } } } }
  | 8 => { s with b := { s.b with staged := { s.b.staged with fade := takePoints 3 fadePoint d } } }
  | 9 => { s with c := { s.c with staged := { s.c.staged with
             p := byteAt d 0, q := byteAt d 1, syncMode := byteAt d 2, order := byteAt d 3, softAge := byteAt d 4,
             hardAge := byteAt d 5, driveShare := word16At d 6, mu := word16At d 8, nominalMass := word16At d 10,
             kp := byteAt d 12, ki := byteAt d 13, holdMax := word16At d 14, shortThreshold := word32At d 16,
             shortCount := byteAt d 20, fallbackSpeed := word16At d 21, rounding := byteAt d 23 } } }
  | 10 => { s with c := { s.c with staged := { s.c.staged with stalk :=
             { stage1 := word16At d 0, stage2 := word16At d 2, stage3 := word16At d 4, stage4 := word16At d 6,
               stage5 := word16At d 8 } } } }
  | _ => s

/-! ### Commit-pending marks -/

/-- The commit-pending mark of the section a port owns (R126). -/
def PlanStore.isPending (s : PlanStore) : Port → Bool
  | .e => s.e.pending
  | .t => s.t.pending
  | .b => s.b.pending
  | .c => s.c.pending

/-- The plan store with the commit-pending mark of a port's section set or cleared (R131, R139). -/
def PlanStore.setPending (s : PlanStore) (p : Port) (v : Bool) : PlanStore :=
  match p with
  | .e => { s with e := { s.e with pending := v } }
  | .t => { s with t := { s.t with pending := v } }
  | .b => { s with b := { s.b with pending := v } }
  | .c => { s with c := { s.c with pending := v } }

/-- Whether the section a port owns is live (R126). -/
def PlanStore.isLive (s : PlanStore) : Port → Bool
  | .e => s.e.live.isSome
  | .t => s.t.live.isSome
  | .b => s.b.live.isSome
  | .c => s.c.live.isSome

/-! ### COMMIT checks (R132 to R135) -/

/-- The detail of a refusal with INVALID: check code, part, item (R135). -/
structure CheckFault where
  code : Nat
  part : Nat
  item : Nat
  deriving DecidableEq, Repr

/-- The first of two checks that fails. -/
def firstFault : Option CheckFault → Option CheckFault → Option CheckFault
  | some f, _ => some f
  | none, g => g

/-- FIELD_RANGE of one field (R132). -/
def checkField (part item lo hi v : Nat) : Option CheckFault :=
  if inRange lo hi v then none else some { code := 1, part := part, item := item }

/-- The range checks of a part's fields, in field order: field number, low end, high end, value (R132, R135). -/
def checkFields (part : Nat) : List (Nat × Nat × Nat × Nat) → Option CheckFault
  | [] => none
  | (item, lo, hi, v) :: rest => firstFault (checkField part item lo hi v) (checkFields part rest)

/-- POINT_RANGE_X and POINT_RANGE_Y of the points from the n-th on (R132, R135). -/
def checkPoints (part : Nat) (xlo xhi ylo yhi : Int) (n : Nat) : List Point → Option CheckFault
  | [] => none
  | p :: rest =>
    if !inRangeInt xlo xhi p.x then some { code := 3, part := part, item := n }
    else if !inRangeInt ylo yhi p.y then some { code := 4, part := part, item := n }
    else checkPoints part xlo xhi ylo yhi (n + 1) rest

/-- CURVE_ORDER: the number of the first point whose x is not above the one before (R133, R135); the list's first
point is the n-th. -/
def checkAscending (part n : Nat) : List Point → Option CheckFault
  | [] => none
  | [_] => none
  | p :: q :: rest =>
    if q.x ≤ p.x then some { code := 5, part := part, item := n + 1 } else checkAscending part (n + 1) (q :: rest)

/-- FADE_ORDER: the number of the first point whose % is above the one before (R133, R135). -/
def checkNotRising (part n : Nat) : List Point → Option CheckFault
  | [] => none
  | [_] => none
  | p :: q :: rest =>
    if p.y < q.y then some { code := 6, part := part, item := n + 1 } else checkNotRising part (n + 1) (q :: rest)

/-- The checks of a curve part: COUNT, points, CURVE_ORDER (R132, R133, R135). -/
def checkCurve (part : Nat) (xlo xhi ylo yhi : Int) (ps : List Point) : Option CheckFault :=
  if !inRange 2 8 ps.length then some { code := 2, part := part, item := 0 }
  else firstFault (checkPoints part xlo xhi ylo yhi 1 ps) (checkAscending part 1 ps)

/-- The checks of section E (R132 to R135). -/
def checkE (x : PlanE) : Option CheckFault :=
  firstFault (checkFields 0 [(1, 1000, 400000, x.rampRate), (2, 0, 3, x.rounding)])
    (checkCurve 1 0 4000 0 32767 x.curve)

/-- The checks of section T (R132 to R135). -/
def checkT (x : PlanT) : Option CheckFault :=
  firstFault
    (checkFields 2 [(1, 1000, 400000, x.rampRate), (2, 256, 4096, x.axleRatio), (3, 350, 650, x.radius),
      (4, 200, 3000, x.shiftMax), (5, 0, 3, x.rounding)])
    (checkCurve 3 0 6000 0 32767 x.curve)

/-- THRESHOLD_ORDER (R134, R135). -/
def checkThresholds (x : PlanB) : Option CheckFault :=
  if x.hotOn ≤ x.warmOn then some { code := 7, part := 4, item := 2 }
  else if x.fadeOn ≤ x.hotOn then some { code := 7, part := 4, item := 3 }
  else none

/-- The range checks of an axle part (R132). -/
def checkAxlePlan (part : Nat) (x : AxlePlan) : Option CheckFault :=
  checkFields part [(1, 1, 400, x.gain), (2, 0, 1000, x.baseShare), (3, 5000, 200000, x.cTh), (4, 1, 500, x.lambda)]

/-- SHARE_SUM (R134, R135). -/
def checkShares (x : PerAxle AxlePlan) : Option CheckFault :=
  if x.front.baseShare + x.drive.baseShare + x.tag.baseShare = 1000 then none
  else some { code := 8, part := 5, item := 0 }

/-- The checks of section B, SHARE_SUM last (R132 to R135). -/
def checkB (x : PlanB) : Option CheckFault :=
  firstFault
    (checkFields 4 [(1, 50, 850, x.warmOn), (2, 50, 850, x.hotOn), (3, 50, 850, x.fadeOn), (4, 5, 50, x.hyst),
      (5, 0, 2000, x.slipHold), (6, 0, 3, x.rounding)]) <|
  firstFault (checkThresholds x) <|
  firstFault (checkAxlePlan 5 x.axles.front) <|
  firstFault (checkAxlePlan 6 x.axles.drive) <|
  firstFault (checkAxlePlan 7 x.axles.tag) <|
  firstFault (checkCurve 8 (-40) 900 0 100 x.fade) <|
  firstFault (checkNotRising 8 1 x.fade) (checkShares x.axles)

/-- PUBLISH_OFFSET, then AGE_ORDER (R134, R135). -/
def checkPeriod (x : PlanC) : Option CheckFault :=
  if x.p < x.q + 2 then some { code := 9, part := 9, item := 2 }
  else if x.hardAge ≤ x.softAge then some { code := 10, part := 9, item := 6 }
  else none

/-- STALK_ORDER: the number of the first stage below the one before (R134, R135). -/
def checkStalk (x : Stalk) : Option CheckFault :=
  if x.stage2 < x.stage1 then some { code := 11, part := 10, item := 2 }
  else if x.stage3 < x.stage2 then some { code := 11, part := 10, item := 3 }
  else if x.stage4 < x.stage3 then some { code := 11, part := 10, item := 4 }
  else if x.stage5 < x.stage4 then some { code := 11, part := 10, item := 5 }
  else none

/-- The checks of section C (R132 to R135). -/
def checkC (x : PlanC) : Option CheckFault :=
  firstFault
    (checkFields 9 [(1, 10, 50, x.p), (2, 2, 48, x.q), (3, 0, 1, x.syncMode), (4, 0, 1, x.order),
      (5, 1, 20, x.softAge), (6, 2, 60, x.hardAge), (7, 200, 700, x.driveShare), (8, 50, 800, x.mu),
      (9, 5000, 32000, x.nominalMass), (10, 0, 200, x.kp), (11, 0, 200, x.ki), (12, 0, 4000, x.holdMax),
      (13, 0, 400000, x.shortThreshold), (14, 1, 50, x.shortCount), (15, 0, 1600, x.fallbackSpeed),
      (16, 0, 3, x.rounding)]) <|
  firstFault (checkPeriod x) <|
  firstFault
    (checkFields 10 [(1, 0, 4000, x.stalk.stage1), (2, 0, 4000, x.stalk.stage2), (3, 0, 4000, x.stalk.stage3),
      (4, 0, 4000, x.stalk.stage4), (5, 0, 4000, x.stalk.stage5)])
    (checkStalk x.stalk)

/-- The first check that the staged section of a port's fails, or none (R131, R135). -/
def PlanStore.checkStaged (s : PlanStore) : Port → Option CheckFault
  | .e => checkE s.e.staged
  | .t => checkT s.t.staged
  | .b => checkB s.b.staged
  | .c => checkC s.c.staged

/-! ### The copy to live (R137, R138) -/

/-- A section after a boundary: copied to live when its mark is set, and its mark cleared (R137). -/
def Section.copied {α : Type} (x : Section α) : Section α :=
  if x.pending then { staged := x.staged, live := some x.staged, pending := false } else x

/-- P as it holds once the live copies stand as they are: section C's, or 20 ms while it is not live (R3, R138). -/
def PlanStore.periodP (s : PlanStore) : Nat :=
  match s.c.live with
  | some c => c.p
  | none => Config.defaultP

/-- The ramp step, toward zero (R138). -/
def rampStep (rampRate p : Nat) : Nat := rampRate * p / 1000

/-- The plan store after a boundary's copies: every pending section live, and the ramp steps of E and T worked out
with the P that holds from this boundary (R137, R138). -/
def PlanStore.copied (s : PlanStore) : PlanStore :=
  let s' : PlanStore := { s with e := s.e.copied, t := s.t.copied, b := s.b.copied, c := s.c.copied }
  { s' with
    stepE := if s.e.pending then some (rampStep s.e.staged.rampRate s'.periodP) else s.stepE,
    stepT := if s.t.pending then some (rampStep s.t.staged.rampRate s'.periodP) else s.stepT }

/-- At a boundary, the plan store copies what is pending and posts PLAN_APPLIED to all ports for each section
(R137). -/
def copyPlan (s : State) : State :=
  let posted := (((s.postIf s.plan.e.pending .planApplied allPorts).postIf s.plan.t.pending .planApplied
    allPorts).postIf s.plan.b.pending .planApplied allPorts).postIf s.plan.c.pending .planApplied allPorts
  { posted with plan := s.plan.copied }

/-! ### What other blocks take from the live plan -/

/-- The soft age and the hard age that hold: section C's, or 3 and 10 before it is first live (R42). -/
def PlanStore.ages (s : PlanStore) : Nat × Nat :=
  match s.c.live with
  | some c => (c.softAge, c.hardAge)
  | none => (Config.defaultSoftAge, Config.defaultHardAge)

/-- All four live sections, when all four are live (R144). -/
def PlanStore.allLive (s : PlanStore) : Option PlanCopy :=
  match s.e.live, s.t.live, s.b.live, s.c.live with
  | some e, some t, some b, some c => some { e := e, t := t, b := b, c := c }
  | _, _, _, _ => none

end Sys2Proof.Machine
end

