-- ==== Sys2Proof/Machine/Intake.lean ====
section
/-! DEFINITION. Report intake: writes with their clamps, ageing, and the latched copy (spec 04, R60 to R65). -/

namespace Sys2Proof.Machine

open Sys2Proof

/-- The optional signed torque at an offset: a present flag, then two bytes (R61, R166). -/
def achievedTorqueAt (d : List Byte) (i : Nat) : Option Int := if flagAt d i then some (signed16At d (i + 1)) else none

/-- EXHAUST fields from a write, clamped (R61, R169). -/
def exhaustOf (d : List Byte) : ExhaustFields :=
  { rpm := min 4000 (word16At d 0), avail := min 100 (byteAt d 2), achieved := achievedTorqueAt d 3 }

/-- TRANS fields from a write, clamped (R61, R169). -/
def transOf (d : List Byte) : TransFields :=
  { rpm := min 6000 (word16At d 0), avail := min 100 (byteAt d 2), achieved := achievedTorqueAt d 3,
    gear := word16At d 6, shifting := flagAt d 8 }

/-- One axle's AXLES fields from a write, from an offset on, clamped (R61, R169). -/
def axleReportOf (d : List Byte) (i : Nat) : AxleReport :=
  { pmax := min 1200 (word16At d i),
    achieved := if flagAt d (i + 2) then some (min 1200 (word16At d (i + 3))) else none,
    slip := flagAt d (i + 5) }

/-- AXLES fields from a write, clamped (R61, R169). -/
def axlesOf (d : List Byte) : AxlesFields :=
  { speed := min 1600 (word16At d 0),
    axle := { front := axleReportOf d 2, drive := axleReportOf d 8, tag := axleReportOf d 14 } }

/-- VEHICLE from a write, clamped (R54, R61). -/
def vehicleOf (d : List Byte) : VehicleReport :=
  { written := true, mass := clampNat 5000 32000 (word16At d 0), ambient := clampInt (-40) 60 (signed16At d 2) }

/-- A record as a write leaves it: FRESH, age 0, refresh mark clear (R61). -/
def Report.written {α : Type} (fields : α) : Report α := { state := .fresh, age := 0, mark := false, fields := fields }

/-- A WRITE of REPORT, by index 0 EXHAUST, 1 TRANS, 2 AXLES, 3 VEHICLE (R61); an out-of-range MASS_KG posts MASS_CLAMP
to port C (R54). -/
def storeReport (index : Nat) (d : List Byte) (s : State) : State :=
  match index with
  | 0 => { s with reports := { s.reports with exhaust := Report.written (exhaustOf d) } }
  | 1 => { s with reports := { s.reports with trans := Report.written (transOf d) } }
  | 2 => { s with reports := { s.reports with axles := Report.written (axlesOf d) } }
  | 3 => { s.postIf (!inRange 5000 32000 (word16At d 0)) .massClamp [.c] with
           reports := { s.reports with vehicle := vehicleOf d } }
  | _ => s

/-- Whether the computation may use a report: FRESH or AGING (R60). -/
def ReportState.isUsable : ReportState → Bool
  | .fresh => true
  | .aging => true
  | .absent => false
  | .expired => false

/-- What ageing at a boundary does to a record, with what it posts: EXPIRED or REFRESH (R63). -/
structure Aged (α : Type) where
  value : α
  expired : Bool
  refresh : Bool
  deriving DecidableEq, Repr

/-- A report aged at a boundary with the ages that hold (R63). -/
def Report.aged {α : Type} (zero : α) (soft hard : Nat) (r : Report α) : Aged (Report α) :=
  if !r.state.isUsable then { value := r, expired := false, refresh := false }
  else if hard ≤ r.age + 1 then
    { value := { state := .expired, age := 0, mark := false, fields := zero }, expired := true, refresh := false }
  else if soft ≤ r.age + 1 then
    { value := { r with state := .aging, age := r.age + 1, mark := true }, expired := false, refresh := !r.mark }
  else { value := { r with state := .fresh, age := r.age + 1 }, expired := false, refresh := false }

/-- At a boundary, report intake ages EXHAUST, TRANS and AXLES, posts EXPIRED to the writer and port C and REFRESH to
the writer, and latches all four records (R62, R63). -/
def ageReports (s : State) : State :=
  let ages := s.plan.ages
  let e := s.reports.exhaust.aged ExhaustFields.zero ages.1 ages.2
  let t := s.reports.trans.aged TransFields.zero ages.1 ages.2
  let a := s.reports.axles.aged AxlesFields.zero ages.1 ages.2
  let reports : Reports := { exhaust := e.value, trans := t.value, axles := a.value, vehicle := s.reports.vehicle }
  let posted := ((((((s.postIf e.expired .expired [.e, .c]).postIf e.refresh .refresh [.e]).postIf t.expired .expired
    [.t, .c]).postIf t.refresh .refresh [.t]).postIf a.expired .expired [.b, .c]).postIf a.refresh .refresh [.b])
  { posted with reports := reports, latched := reports }

/-- The mass of a resolution: the latched VEHICLE's, or NOMINAL_MASS before the first write (R53). -/
def latchedMass (latched : Reports) (nominal : Nat) : Nat :=
  if latched.vehicle.written then latched.vehicle.mass else nominal

/-- The ambient handed to the heat estimator, in degrees C: the latched VEHICLE's, or 25 before the first write
(R64). -/
def latchedAmbient (latched : Reports) : Int :=
  if latched.vehicle.written then latched.vehicle.ambient else Config.defaultAmbient

end Sys2Proof.Machine
end

