-- ==== Sys2Proof/Machine/Resolver.lean ====
section
/-! DEFINITION. The demand resolver: writes, ageing, the speed-hold loop, resolution (spec 03, R37 to R59). -/

namespace Sys2Proof.Machine

open Sys2Proof

/-- An entry as a write leaves it (R38, R39). -/
def DemandEntry.written (v : Nat) : DemandEntry := { value := v, age := 0, mark := false }

/-- A WRITE of DEMAND index 0 or 1, clamped (R38, R39). -/
def storeDemand (index : Nat) (d : List Byte) (s : State) : State :=
  match index with
  | 0 => { s with demand := { s.demand with pedal := some (DemandEntry.written (min 10000 (word16At d 0))) } }
  | 1 => { s with demand := { s.demand with stalk := some (DemandEntry.written (min 5 (word16At d 0))) } }
  | _ => s

/-- A WRITE of HOLD_SET, SET_SPEED clamped (R45). -/
def storeHoldSet (d : List Byte) (s : State) : State :=
  { s with demand := { s.demand with holdEnabled := flagAt d 0, setSpeed := clampNat 50 1200 (word16At d 1) } }

/-- A written entry aged at a boundary, with what it posts (R41). -/
def ageEntry (soft hard : Nat) (x : Option DemandEntry) : Aged (Option DemandEntry) :=
  match x with
  | none => { value := none, expired := false, refresh := false }
  | some entry =>
    if hard ≤ entry.age + 1 then { value := none, expired := true, refresh := false }
    else if soft ≤ entry.age + 1 then
      { value := some { entry with age := entry.age + 1, mark := true }, expired := false, refresh := !entry.mark }
    else { value := some { entry with age := entry.age + 1 }, expired := false, refresh := false }

/-- At a boundary, the resolver ages PEDAL and STALK; EXPIRED goes to the writer and to port C, REFRESH to the writer
(R41). -/
def ageDemand (s : State) : State :=
  let ages := s.plan.ages
  let pedal := ageEntry ages.1 ages.2 s.demand.pedal
  let stalk := ageEntry ages.1 ages.2 s.demand.stalk
  let posted := (((s.postIf pedal.expired .expired [.b, .c]).postIf pedal.refresh .refresh [.b]).postIf stalk.expired
    .expired [.c]).postIf stalk.refresh .refresh [.c]
  { posted with demand := { s.demand with pedal := pedal.value, stalk := stalk.value } }

/-- The integrator after one boundary of the loop (R48 to R50). -/
def nextIntegrator (ki holdMax delta : Nat) (error : Int) (frozen : Bool) (i : Nat) : Nat :=
  let increment := roundDiv .towardZero ((ki : Int) * error * delta * 1024) 10000
  (clampInt 0 ((holdMax * 1024 : Nat) : Int) (if frozen then (i : Int) else i + increment)).toNat

/-- The loop's output (R51). -/
def holdOutput (kp holdMax : Nat) (error : Int) (i : Nat) : Nat :=
  (clampInt 0 (holdMax : Int) ((kp : Int) * error + ((i / 1024 : Nat) : Int))).toNat

/-- The demand resolver with HOLD EMPTY and the integrator 0 (R46, R57). -/
def Demand.dropHold (d : Demand) : Demand := { d with hold := none, integrator := 0 }

/-- The speed-hold loop of a boundary in RUNNING (R47 to R51). The integrator is frozen when the published SHORTFALL
is above 0 (R49). -/
def Demand.runLoop (d : Demand) (c : PlanC) (speed delta shortfall : Nat) : Demand :=
  let error := (speed : Int) - d.setSpeed
  let i := nextIntegrator c.ki c.holdMax delta error (decide (0 < shortfall)) d.integrator
  { d with hold := some (holdOutput c.kp c.holdMax error i), integrator := i }

/-- At a boundary, the resolver acts on HOLD_SET in the engine state of the boundary (R46, R57). -/
def holdStep (s : State) : State :=
  if !s.demand.holdEnabled then { s with demand := s.demand.dropHold }
  else match s.app.engine, s.plan.c.live with
    | .running, some c =>
      let v := s.latched.axles.fields.speed
      { s with demand := s.demand.runLoop c v (s.timer.delta.getD 0) s.app.published.summary.shortfall }
    | .fallback, _ =>
      { s.post .holdDropped [.c] with demand := { s.demand.dropHold with holdEnabled := false } }
    | _, _ => { s with demand := s.demand.dropHold }

/-- The deceleration of a stalk stage through C.STALK (R44). -/
def stageDeceleration (x : Stalk) : Nat → Nat
  | 0 => 0
  | 1 => x.stage1
  | 2 => x.stage2
  | 3 => x.stage3
  | 4 => x.stage4
  | _ => x.stage5

/-- What the resolver hands to the apportioner (R55). -/
structure Resolution where
  d : Nat
  dSvc : Nat
  hold : Nat
  deriving DecidableEq, Repr

/-- The value of an entry, 0 when EMPTY (R37). -/
def entryValue (x : Option DemandEntry) : Nat :=
  match x with
  | none => 0
  | some entry => entry.value

/-- D_any: the greater of the PEDAL value and the HOLD value (R55). -/
def Demand.anyDeceleration (x : Demand) : Nat := max (entryValue x.pedal) (x.hold.getD 0)

/-- D_end: the STALK stage mapped through C.STALK (R44, R55). -/
def Demand.endDeceleration (x : Demand) (stalk : Stalk) : Nat := stageDeceleration stalk (entryValue x.stalk)

/-- The period's demand (R53, R55). -/
def resolve (c : PlanC) (mass : Nat) (x : Demand) : Resolution :=
  let mode := roundingOfCode c.rounding
  { d := demandForce mode mass (max x.anyDeceleration (x.endDeceleration c.stalk)),
    dSvc := demandForce mode mass x.anyDeceleration,
    hold := x.hold.getD 0 }

end Sys2Proof.Machine
end

