-- ==== Sys2Proof/Machine/Estimator.lean ====
section
/-! DEFINITION. The heat estimator: force and speed of an interval, rise, cooling, ceiling, grading, margin, fade and
seeding (spec 06, R108 to R125); with the service achieved forces of R69, which it takes. -/

namespace Sys2Proof.Machine

open Sys2Proof

/-! ### Service achieved forces (R69) -/

/-- An axle's achieved force: ACHIEVED_KPA times GAIN, formed when the latched AXLES is FRESH or AGING and the value is
present (R31, R69). -/
def serviceAchieved (latched : Reports) (b : PlanB) (i : Axle) : Option Force :=
  if latched.axles.state.isUsable then
    (latched.axles.fields.axle.get i).achieved.map (fun p => pressureForce p (b.axles.get i).gain)
  else none

/-- Whether a lane was formed and is NOVALUE (R25). -/
def laneIsNovalue (x : Option Force) : Bool :=
  match x with
  | none => false
  | some f => f.isNovalue

/-- A lane's fresh value: formed and not NOVALUE (R69). -/
def laneFresh (x : Option Force) : Option Nat := x.bind Force.orAbsent

/-! ### One step of an account (R110 to R118) -/

/-- The rise of a step, rounded up (R113). -/
def heatRise (f v delta cTh : Nat) : Int :=
  roundDiv .up ((f * v * delta * 65536 : Nat) : Int) ((36 * 10000 * cTh : Nat) : Int)

/-- The cooling of a step, rounded down, 0 at or below ambient (R114). -/
def heatCooling (temp ambient : Int) (lambda delta : Nat) : Int :=
  if ambient < temp then roundDiv .down ((temp - ambient) * lambda * delta) 100000000 else 0

/-- The new temperature before the ceiling: ambient is the floor of an account that was above it (R114). -/
def heatBeforeCeiling (temp ambient rise cooling : Int) : Int :=
  if ambient < temp then max ambient (temp + rise - cooling) else temp + rise

/-- The reached state: the highest state whose threshold the temperature has reached (R116). -/
def reachedState (b : PlanB) (temp : Int) : HeatState :=
  if (b.fadeOn : Int) * Config.heatUnit ≤ temp then .fade
  else if (b.hotOn : Int) * Config.heatUnit ≤ temp then .hot
  else if (b.warmOn : Int) * Config.heatUnit ≤ temp then .warm
  else .cool

/-- The grade of a heat state, 0 COOL to 3 FADE (R108). -/
def heatRank : HeatState → Nat
  | .cool => 0
  | .warm => 1
  | .hot => 2
  | .fade => 3

/-- Whether the temperature is below a threshold less HYST (R117). -/
def belowThreshold (b : PlanB) (threshold : Nat) (temp : Int) : Bool :=
  decide (temp < ((threshold : Int) - b.hyst) * Config.heatUnit)

/-- A heat state lowered one grade at a time while the temperature is below its threshold less HYST (R117). -/
def loweredState (b : PlanB) (temp : Int) (state : HeatState) : HeatState :=
  let fromWarm : HeatState := if belowThreshold b b.warmOn temp then .cool else .warm
  let fromHot : HeatState := if belowThreshold b b.hotOn temp then fromWarm else .hot
  match state with
  | .cool => .cool
  | .warm => fromWarm
  | .hot => fromHot
  | .fade => if belowThreshold b b.fadeOn temp then fromHot else .fade

/-- The graded state (R116, R117). -/
def gradedState (b : PlanB) (temp : Int) (state : HeatState) : HeatState :=
  if heatRank state < heatRank (reachedState b temp) then reachedState b temp else loweredState b temp state

/-- An account after a step, with whether it posts HEAT_SAT and HEAT_STATE. -/
structure HeatStep where
  account : HeatAccount
  postsSat : Bool
  postsState : Bool
  deriving DecidableEq, Repr

/-- One step of one account: rise, cooling, floor, ceiling and saturation mark (R113 to R115), then grading (R116 to
R118). -/
def stepAccount (b : PlanB) (ax : AxlePlan) (f v delta : Nat) (ambient : Int) (a : HeatAccount) : HeatStep :=
  let raw := heatBeforeCeiling a.temp ambient (heatRise f v delta ax.cTh) (heatCooling a.temp ambient ax.lambda delta)
  let temp := min raw Config.heatCeiling
  let state := gradedState b temp a.state
  { account :=
      { temp := temp, state := state, seeded := a.seeded,
        sat := if Config.heatCeiling < raw then true else if raw < Config.heatCeiling then false else a.sat },
    postsSat := decide (Config.heatCeiling < raw) && !a.sat,
    postsState := decide (state ≠ a.state) }

/-! ### A boundary's integration -/

/-- The force of an axle over the interval: its fresh achieved force, or its GRANT_N in the published set (R111). -/
def heatForce (s : State) (b : PlanB) (i : Axle) : Nat :=
  (laneFresh (serviceAchieved s.latched b i)).getD (s.app.published.service.get i).grantN

/-- The last valid speed after a boundary (R112). -/
def nextLastSpeed (s : State) : Nat :=
  if s.latched.axles.state.isUsable then s.latched.axles.fields.speed else s.heat.lastSpeed

/-- The speed over the interval (R112). -/
def heatSpeed (s : State) : Nat :=
  if s.latched.axles.state.isUsable then s.latched.axles.fields.speed
  else match s.plan.c.live with
    | some c => max s.heat.lastSpeed c.fallbackSpeed
    | none => s.heat.lastSpeed

/-- The step of one account at a boundary with section B live (R110). -/
def boundaryStep (s : State) (b : PlanB) (i : Axle) : HeatStep :=
  stepAccount b (b.axles.get i) (heatForce s b i) (heatSpeed s) (s.timer.delta.getD 0)
    (latchedAmbient s.latched * Config.heatUnit) (s.heat.accounts.get i)

/-- The postings of one axle at a boundary: NOVALUE of its achieved force to ports B and C (R25, R69), HEAT_SAT to
ports B and C (R115), HEAT_STATE to all ports (R118). -/
def postHeat (achieved : Option Force) (h : HeatStep) (s : State) : State :=
  ((s.postIf (laneIsNovalue achieved) .novalue [.b, .c]).postIf h.postsSat .heatSat [.b, .c]).postIf h.postsState
    .heatState allPorts

/-- At a boundary, the heat estimator sets the last valid speed (R112) and, where section B is live, integrates and
grades the three accounts (R110). -/
def heatStep (s : State) : State :=
  match s.plan.b.live with
  | none => { s with heat := { s.heat with lastSpeed := nextLastSpeed s } }
  | some b =>
    let steps : PerAxle HeatStep := PerAxle.build (boundaryStep s b)
    let posted := postHeat (serviceAchieved s.latched b .tag) steps.tag <|
      postHeat (serviceAchieved s.latched b .drive) steps.drive <|
      postHeat (serviceAchieved s.latched b .front) steps.front s
    { posted with heat := { accounts := steps.map (fun _ h => h.account), lastSpeed := nextLastSpeed s } }

/-! ### What the estimator hands on (R119) -/

/-- The margin of an axle, at least 1 (R93, R119). -/
def heatMargin (b : PlanB) (temp : Int) : Nat := (max 1 ((b.fadeOn : Int) - wholeDegrees temp)).toNat

/-- The fade percentage of an axle (R35, R119). -/
def heatFade (b : PlanB) (temp : Int) : Nat := (curveAt (roundingOfCode b.rounding) (wholeDegrees temp) b.fade).toNat

/-! ### Seeding (R122, R123) -/

/-- The value that a SEED write carries for an axle, from an offset on: a present flag, then degrees C (R122). -/
def seedValueAt (d : List Byte) (i : Nat) : Option Int := if flagAt d i then some (signed16At d (i + 1)) else none

/-- The three values of a SEED write (R122, R166). -/
def seedValues (d : List Byte) : PerAxle (Option Int) :=
  { front := seedValueAt d 0, drive := seedValueAt d 3, tag := seedValueAt d 6 }

/-- An account after a SEED write: an unseeded account takes a present value, clamped (R122). -/
def seedAccount (v : Option Int) (a : HeatAccount) : HeatAccount :=
  match v with
  | none => a
  | some x =>
    if a.seeded then a
    else { temp := clampInt (-40) 900 x * Config.heatUnit, state := a.state, seeded := true, sat := false }

/-- Whether a SEED write's value is ignored, since the account has been seeded (R122, R123). -/
def seedIgnored (v : Option Int) (a : HeatAccount) : Bool := v.isSome && a.seeded

/-- The ignored axles of a SEED write as a detail byte: 1 front, 2 drive, 4 tag, added together (R162). -/
def seedDetail (d : List Byte) (h : PerAxle HeatAccount) : Nat :=
  (if seedIgnored (seedValues d).front h.front then 1 else 0) +
  (if seedIgnored (seedValues d).drive h.drive then 2 else 0) +
  (if seedIgnored (seedValues d).tag h.tag then 4 else 0)

/-- Whether a SEED write has at least one present value (R123). -/
def seedHasValue (d : List Byte) : Bool :=
  (seedValues d).front.isSome || (seedValues d).drive.isSome || (seedValues d).tag.isSome

/-- The accounts after a SEED write (R122). -/
def storeSeed (d : List Byte) (s : State) : State :=
  { s with heat := { s.heat with
      accounts := s.heat.accounts.map (fun i a => seedAccount ((seedValues d).get i) a) } }

end Sys2Proof.Machine
end

