-- ==== Sys2Proof/Machine/Evaluator.lean ====
section
/-! DEFINITION. The capability evaluator: shift gap, exhaust stale mark, slip cut, capacities, frozen axles and the
drive axle ceiling (spec 04, R66 to R80). -/

namespace Sys2Proof.Machine

open Sys2Proof

/-! ### Shift gap, stale mark, slip cut (R70 to R75) -/

/-- The latched SHIFTING; an ABSENT or EXPIRED TRANS counts as clear (R70). -/
def latchedShifting (latched : Reports) : Bool := latched.trans.state.isUsable && latched.trans.fields.shifting

/-- The latched drive SLIP flag; an ABSENT or EXPIRED AXLES counts as clear (R73). -/
def latchedDriveSlip (latched : Reports) : Bool :=
  latched.axles.state.isUsable && latched.axles.fields.axle.drive.slip

/-- Whether a boundary ends the shift gap long (R71). -/
def endsLong (t : PlanT) (latched : Reports) (delta : Nat) (x : Capability) : Bool :=
  decide (x.shift = .gap) && latchedShifting latched && decide (t.shiftMax * 10 ≤ x.shiftElapsed + delta)

/-- The shift state, elapsed count and armed mark after a boundary (R70, R71). -/
def nextShift (t : PlanT) (latched : Reports) (delta : Nat) (x : Capability) : Capability :=
  match x.shift with
  | .idle =>
    if !latchedShifting latched then { x with armed := true }
    else if x.armed then { x with shift := .gap, shiftElapsed := 0, armed := false }
    else x
  | .gap =>
    if !latchedShifting latched then { x with shift := .idle, shiftElapsed := x.shiftElapsed + delta, armed := true }
    else if endsLong t latched delta x then { x with shift := .idle, shiftElapsed := x.shiftElapsed + delta }
    else { x with shiftElapsed := x.shiftElapsed + delta }

/-- Whether the latched EXHAUST is FRESH or AGING with age 1, which clears the stale mark (R72). -/
def exhaustJustLatched (latched : Reports) : Bool :=
  latched.exhaust.state.isUsable && decide (latched.exhaust.age = 1)

/-- The exhaust stale mark after a boundary (R72). -/
def nextStale (long : Bool) (latched : Reports) (stale : Bool) : Bool :=
  if long then true else stale && !exhaustJustLatched latched

/-- A slip hold after its time has been counted: it ends when the hold time has passed (R74). -/
def settleHold (b : PlanB) (elapsed : Nat) (x : Capability) : Capability :=
  { x with slip := if b.slipHold * 10 ≤ elapsed then .off else .hold, holdElapsed := elapsed }

/-- The slip state and hold count after a boundary (R73, R74). -/
def nextSlip (b : PlanB) (slipping : Bool) (delta : Nat) (x : Capability) : Capability :=
  match x.slip, slipping with
  | .off, true => { x with slip := .cut }
  | .off, false => x
  | .cut, true => x
  | .cut, false => settleHold b 0 x
  | .hold, true => { x with slip := .cut, holdElapsed := 0 }
  | .hold, false => settleHold b (x.holdElapsed + delta) x

/-- Whether a boundary begins a slip cut from OFF, which posts SLIP_CUT (R73). -/
def beginsCut (slipping : Bool) (x : Capability) : Bool := decide (x.slip = .off) && slipping

/-- The evaluator's own state after a boundary in RUNNING or FALLBACK (R66, R70 to R74). -/
def Capability.next (x : Capability) (t : PlanT) (b : PlanB) (latched : Reports) (delta : Nat) : Capability :=
  let long := endsLong t latched delta x
  let shifted := nextShift t latched delta { x with stale := nextStale long latched x.stale }
  nextSlip b (latchedDriveSlip latched) delta shifted

/-- At a boundary in RUNNING or FALLBACK, the evaluator updates its shift and slip state, and posts SHIFT_LONG to ports
E and T and SLIP_CUT to ports E, T and C (R66, R71, R73). -/
def shiftSlipStep (live : PlanCopy) (s : State) : State :=
  let delta := s.timer.delta.getD 0
  let posted := (s.postIf (endsLong live.t s.latched delta s.cap) .shiftLong [.e, .t]).postIf
    (beginsCut (latchedDriveSlip s.latched) s.cap) .slipCut [.e, .t, .c]
  { posted with cap := s.cap.next live.t live.b s.latched delta }

/-! ### Capacities (R67 to R69, R76 to R79) -/

/-- The shift gap is in force or the exhaust stale mark is set: the SHIFT_GAP mark (R79). -/
def Capability.gapMark (x : Capability) : Bool := decide (x.shift = .gap) || x.stale

/-- The slip cut is in force: the SLIP_CUT mark (R73, R79). -/
def Capability.cutMark (x : Capability) : Bool := decide (x.slip ≠ .off)

/-- The two lanes of an endurance brake's paired request, none where no request or no lane is formed (R30). -/
structure Lanes where
  capacity : Option Force
  achieved : Option Force
  deriving DecidableEq, Repr

/-- The gear ratio of the latched TRANS, 0 when it is ABSENT or EXPIRED (R28). -/
def latchedGear (latched : Reports) : Nat := if latched.trans.state.isUsable then latched.trans.fields.gear else 0

/-- The exhaust brake's paired request (R28, R30, R67, R69). -/
def exhaustLanes (live : PlanCopy) (latched : Reports) : Lanes :=
  if latched.exhaust.state.isUsable then
    let mode := roundingOfCode live.e.rounding
    let force := fun torque => exhaustForce mode torque (latchedGear latched) live.t.axleRatio live.t.radius
    { capacity := some (force (curveAt mode (latched.exhaust.fields.rpm : Int) live.e.curve)),
      achieved := latched.exhaust.fields.achieved.map force }
  else { capacity := none, achieved := none }

/-- The retarder's paired request (R27, R30, R68, R69). -/
def retarderLanes (live : PlanCopy) (latched : Reports) : Lanes :=
  if latched.trans.state.isUsable then
    let mode := roundingOfCode live.t.rounding
    let force := fun torque => retarderForce mode torque live.t.axleRatio live.t.radius
    { capacity := some (force (curveAt mode (latched.trans.fields.rpm : Int) live.t.curve)),
      achieved := latched.trans.fields.achieved.map force }
  else { capacity := none, achieved := none }

/-- An endurance capacity from its lane: availability derate, then soft-age derate, and 0 while withheld (R67, R68). -/
def enduranceCapacity (lane : Option Force) (avail : Nat) (isAging withheld : Bool) : Nat :=
  if withheld then 0
  else match lane with
    | some (.newtons f) => derateAge isAging (deratePercent f avail)
    | _ => 0

/-- The marks of one actuator's report: AGING, and EXPIRED for EXPIRED or ABSENT (R79). -/
def agingMark (x : ReportState) : Bool := decide (x = .aging)

/-- The EXPIRED mark (R79). -/
def expiredMark (x : ReportState) : Bool := !x.isUsable

/-- What the evaluator hands on for an endurance brake (R79). -/
structure EnduranceResult where
  capacity : Nat
  achieved : Option Nat
  flags : GrantFlags
  deriving DecidableEq, Repr

/-- The exhaust brake's results (R67, R69, R79). -/
def exhaustResult (live : PlanCopy) (latched : Reports) (x : Capability) : EnduranceResult :=
  let lanes := exhaustLanes live latched
  { capacity := enduranceCapacity lanes.capacity latched.exhaust.fields.avail (agingMark latched.exhaust.state)
      (x.gapMark || x.cutMark),
    achieved := laneFresh lanes.achieved,
    flags := { GrantFlags.clear with
      slipCut := x.cutMark, shiftGap := x.gapMark, aging := agingMark latched.exhaust.state,
      expired := expiredMark latched.exhaust.state,
      novalue := laneIsNovalue lanes.capacity || laneIsNovalue lanes.achieved } }

/-- The retarder's results (R68, R69, R79). -/
def retarderResult (live : PlanCopy) (latched : Reports) (x : Capability) : EnduranceResult :=
  let lanes := retarderLanes live latched
  { capacity := enduranceCapacity lanes.capacity latched.trans.fields.avail (agingMark latched.trans.state) x.cutMark,
    achieved := laneFresh lanes.achieved,
    flags := { GrantFlags.clear with
      slipCut := x.cutMark, aging := agingMark latched.trans.state, expired := expiredMark latched.trans.state,
      novalue := laneIsNovalue lanes.capacity || laneIsNovalue lanes.achieved } }

/-- An axle's capacity product PMAX_KPA times GAIN, formed when AXLES is FRESH or AGING (R78). -/
def serviceProduct (live : PlanCopy) (latched : Reports) (i : Axle) : Option Force :=
  if latched.axles.state.isUsable then
    some (pressureForce (latched.axles.fields.axle.get i).pmax (live.b.axles.get i).gain)
  else none

/-- An axle's service capacity: fade derate, then soft-age derate (R78). -/
def serviceCapacity (live : PlanCopy) (latched : Reports) (i : Axle) (temp : Int) : Nat :=
  match serviceProduct live latched i with
  | some (.newtons f) => derateAge (agingMark latched.axles.state) (deratePercent f (heatFade live.b temp))
  | _ => 0

/-- Whether an axle is frozen: front or tag with its SLIP flag set in a FRESH or AGING AXLES (R76). -/
def isFrozen (latched : Reports) (i : Axle) : Bool :=
  decide (i ≠ .drive) && latched.axles.state.isUsable && (latched.axles.fields.axle.get i).slip

/-- The drive axle ceiling E_cap (R77). -/
def driveCeiling (c : PlanC) (mass : Nat) : Nat := mass * c.driveShare * 9807 / 1000000 * c.mu / 1000

/-- The NOVALUE postings of the capacity lanes and the endurance achieved lanes, one for each lane (R25). -/
def postLanes (live : PlanCopy) (s : State) : State :=
  let e := exhaustLanes live s.latched
  let r := retarderLanes live s.latched
  (((((((s.postIf (laneIsNovalue e.capacity) .novalue [.e, .c]).postIf (laneIsNovalue e.achieved) .novalue [.e, .c]).postIf
    (laneIsNovalue r.capacity) .novalue [.t, .c]).postIf (laneIsNovalue r.achieved) .novalue [.t, .c]).postIf
    (laneIsNovalue (serviceProduct live s.latched .front)) .novalue [.b, .c]).postIf
    (laneIsNovalue (serviceProduct live s.latched .drive)) .novalue [.b, .c]).postIf
    (laneIsNovalue (serviceProduct live s.latched .tag)) .novalue [.b, .c])

end Sys2Proof.Machine
end

