-- ==== Sys2Proof/Machine/Apportion.lean ====
section
/-! DEFINITION. The apportioner: endurance grants, expected endurance, the service split, shortfall, unit grants, the
pending set, publication and the zero set (spec 05, R81 to R107). -/

namespace Sys2Proof.Machine

open Sys2Proof

/-! ### Endurance grants (R84 to R88) -/

/-- An endurance grant with its flags (R84, R85, R88). -/
structure EnduranceGrant where
  grant : Nat
  ramped : Bool
  capped : Bool
  deriving DecidableEq, Repr

/-- A grant from the demand left, the capacity, the ceiling left, the previous grant and the ramp step (R84, R85,
R88). -/
def enduranceGrant (demand capacity ceiling prev step : Nat) : EnduranceGrant :=
  let target := min demand (min capacity ceiling)
  { grant := min target (prev + step), ramped := decide (prev + step < target),
    capped := decide (ceiling < demand) && decide (ceiling < capacity) }

/-- Both endurance grants. -/
structure EndurancePair where
  e : EnduranceGrant
  r : EnduranceGrant
  deriving DecidableEq, Repr

/-- What the endurance stage takes for one brake. -/
structure BrakeInput where
  capacity : Nat
  prev : Nat
  step : Nat
  achieved : Option Nat
  deriving DecidableEq, Repr

/-- The endurance grants, in the order that ORDER names: 0 EXHAUST_FIRST, 1 RETARDER_FIRST (R84, R85). -/
def endurancePair (order d eCap : Nat) (e r : BrakeInput) : EndurancePair :=
  if order = 0 then
    let first := enduranceGrant d e.capacity eCap e.prev e.step
    { e := first, r := enduranceGrant (d - first.grant) r.capacity (eCap - first.grant) r.prev r.step }
  else
    let first := enduranceGrant d r.capacity eCap r.prev r.step
    { e := enduranceGrant (d - first.grant) e.capacity (eCap - first.grant) e.prev e.step, r := first }

/-- The expected endurance force x: the grant, held to a fresh achieved force plus one ramp step (R89). -/
def expectedForce (grant : Nat) (x : BrakeInput) : Nat :=
  match x.achieved with
  | some a => min grant (a + x.step)
  | none => grant

/-! ### The service split (R91 to R95) -/

/-- A frozen axle's claim served against the room left: its grant and the flags FROZEN and CAPPED (R92). -/
structure Claim where
  grant : Nat
  frozen : Bool
  capped : Bool
  deriving DecidableEq, Repr

/-- The claim of an axle with frozen value v (R92). -/
def serveClaim (v room capacity : Nat) : Claim :=
  if v ≤ room then { grant := v, frozen := true, capped := false }
  else { grant := min room capacity, frozen := false, capped := true }

/-- An axle during the split: whether the next pass may give it more, its factor, cap, running total, and whether it
was cut in a pass (R93 to R95). -/
structure SplitAxle where
  active : Bool
  factor : Nat
  cap : Nat
  total : Nat
  cut : Bool
  deriving DecidableEq, Repr

/-- The factor an axle brings to a pass: 0 unless it takes part. -/
def SplitAxle.weight (x : SplitAxle) : Nat := if x.active then x.factor else 0

/-- The axle of a pass with the largest factor, the lowest-numbered among equals; none when no axle takes part (R94).
Of two axles the later one leads only with a larger factor, or where the earlier one takes no part. -/
def passLeader (x : PerAxle SplitAxle) : Option Axle :=
  let better (best : Option Axle) (i : Axle) : Option Axle :=
    if !(x.get i).active then best
    else match best with
      | none => some i
      | some j => if (x.get j).factor < (x.get i).factor then some i else some j
  better (better (better none .front) .drive) .tag

/-- Each axle's share of a pass, toward zero (R94). -/
def passShare (amount : Nat) (x : PerAxle SplitAxle) (i : Axle) : Nat :=
  amount * (x.get i).weight / (x.front.weight + x.drive.weight + x.tag.weight)

/-- What a pass gives each axle: its share, and to the leader the remainder too (R94). -/
def passGives (amount : Nat) (x : PerAxle SplitAxle) (i : Axle) : Nat :=
  let shares := passShare amount x .front + passShare amount x .drive + passShare amount x .tag
  passShare amount x i + (if passLeader x = some i then amount - shares else 0)

/-- An axle after its caps are applied (R95): cut to its cap, and out of later passes once at its cap. -/
def SplitAxle.given (x : SplitAxle) (more : Nat) : SplitAxle :=
  let total := x.total + more
  { x with active := x.active && decide (total < x.cap), total := min total x.cap,
           cut := x.cut || decide (x.cap < total) }

/-- The amount cut from an axle that a pass gives more (R95). -/
def SplitAxle.cutAmount (x : SplitAxle) (more : Nat) : Nat := (x.total + more) - x.cap

/-- The split between two passes: the axles, and the pool still to be divided. -/
structure SplitState where
  axles : PerAxle SplitAxle
  pool : Nat
  deriving DecidableEq, Repr

/-- One pass over the axles that take part (R94, R95). A pass with a pool but no axle below its cap leaves the pool as
it is. -/
def splitPass (s : SplitState) : SplitState :=
  if passLeader s.axles = none then s
  else
    let gives := passGives s.pool s.axles
    { axles := s.axles.map (fun i x => x.given (gives i)),
      pool := s.axles.front.cutAmount (gives .front) + s.axles.drive.cutAmount (gives .drive) +
        s.axles.tag.cutAmount (gives .tag) }

/-- What the split takes for one axle. -/
structure AxleInput where
  capacity : Nat
  cap : Nat
  factor : Nat
  frozen : Option Nat
  deriving DecidableEq, Repr

/-- A service grant: its force and the flags FROZEN and CAPPED (R92, R95). -/
structure ServiceGrant where
  grant : Nat
  frozen : Bool
  capped : Bool
  deriving DecidableEq, Repr

/-- The claim of an axle, when it is frozen (R92). -/
def axleClaim (room : Nat) (x : AxleInput) : Option Claim := x.frozen.map (fun v => serveClaim v room x.capacity)

/-- The force that a claim takes from the room. -/
def claimGrant (x : Option Claim) : Nat :=
  match x with
  | none => 0
  | some c => c.grant

/-- An axle as it enters the split; an axle with a claim takes no part and keeps a total of 0 (R92). -/
def enterSplit (claim : Option Claim) (x : AxleInput) : SplitAxle :=
  { active := claim.isNone, factor := x.factor, cap := x.cap, total := 0, cut := false }

/-- An axle's service grant, from its claim or from the split (R92, R95). -/
def serviceGrantOf (claim : Option Claim) (x : SplitAxle) : ServiceGrant :=
  match claim with
  | some c => { grant := c.grant, frozen := c.frozen, capped := c.capped }
  | none => { grant := x.total, frozen := false, capped := x.cut }

/-- The service grants of the remainder S: claims of frozen axles front before tag, then three passes (R92 to R95). -/
def serviceSplit (s : Nat) (x : PerAxle AxleInput) : PerAxle ServiceGrant :=
  let front := axleClaim s x.front
  let tag := axleClaim (s - claimGrant front) x.tag
  let start : SplitState :=
    { axles := { front := enterSplit front x.front, drive := enterSplit none x.drive, tag := enterSplit tag x.tag },
      pool := s - claimGrant front - claimGrant tag }
  let done := splitPass (splitPass (splitPass start))
  { front := serviceGrantOf front done.axles.front, drive := serviceGrantOf none done.axles.drive,
    tag := serviceGrantOf tag done.axles.tag }

/-! ### The pending set (R82 to R100) -/

/-- The input of the endurance stage for one brake. -/
def brakeInput (x : EnduranceResult) (prev : Nat) (step : Option Nat) : BrakeInput :=
  { capacity := x.capacity, prev := prev, step := step.getD 0, achieved := x.achieved }

/-- The actuator record of an endurance brake (R98 to R100). -/
def enduranceRecord (x : EnduranceResult) (g : EnduranceGrant) (units : Nat) : ActuatorGrant :=
  { grantN := g.grant, units := units, capacity := x.capacity,
    flags := { x.flags with ramped := g.ramped, capped := g.capped } }

/-- The actuator record of an axle (R98 to R100). -/
def serviceRecord (live : PlanCopy) (latched : Reports) (i : Axle) (capacity : Nat) (g : ServiceGrant) :
    ActuatorGrant :=
  { grantN := g.grant, units := pressureGrant g.grant (live.b.axles.get i).gain, capacity := capacity,
    flags := { GrantFlags.clear with
      capped := g.capped, aging := agingMark latched.axles.state, expired := expiredMark latched.axles.state,
      novalue := laneIsNovalue (serviceProduct live latched i), frozen := g.frozen } }

/-- The input of the split for one axle: its capacity, cap, factor and frozen value (R76, R91, R93). -/
def axleInput (live : PlanCopy) (s : State) (driveRoom : Nat) (i : Axle) : AxleInput :=
  let temp := (s.heat.accounts.get i).temp
  let capacity := serviceCapacity live s.latched i temp
  { capacity := capacity,
    cap := if i = .drive then min capacity driveRoom else capacity,
    factor := (live.b.axles.get i).baseShare * heatMargin live.b temp,
    frozen := if isFrozen s.latched i then some (s.app.published.service.get i).grantN else none }

/-- The pending set of a boundary in RUNNING or FALLBACK (R82 to R100); PERIOD_INDEX and VALID are stamped at the
publish point (R102). -/
def computeSet (live : PlanCopy) (s : State) : GrantSet :=
  let mass := latchedMass s.latched live.c.nominalMass
  let demand := resolve live.c mass s.demand
  let eCap := driveCeiling live.c mass
  let resE := exhaustResult live s.latched s.cap
  let resR := retarderResult live s.latched s.cap
  let inE := brakeInput resE s.app.prevE s.plan.stepE
  let inR := brakeInput resR s.app.prevR s.plan.stepT
  let pair := endurancePair live.c.order demand.d eCap inE inR
  let xE := expectedForce pair.e.grant inE
  let xR := expectedForce pair.r.grant inR
  let remainder := min demand.d demand.dSvc - (xE + xR)
  let inputs : PerAxle AxleInput := PerAxle.build (axleInput live s (eCap - (pair.e.grant + pair.r.grant)))
  let split := serviceSplit remainder inputs
  { periodIndex := 0, valid := false,
    exhaust := enduranceRecord resE pair.e
      (exhaustTorque pair.e.grant (latchedGear s.latched) live.t.axleRatio live.t.radius),
    retarder := enduranceRecord resR pair.r (retarderTorque pair.r.grant live.t.axleRatio live.t.radius),
    service := split.map (fun i g => serviceRecord live s.latched i (inputs.get i).capacity g),
    summary :=
      { state := s.app.engine, d := demand.d, dSvc := demand.dSvc, eCap := eCap, xE := xE, xR := xR, s := remainder,
        shortfall := demand.d - (xE + xR + (split.front.grant + split.drive.grant + split.tag.grant)),
        holdValue := demand.hold } }

/-- The engine state that a boundary decides (R144). -/
def engineOf (allLive axlesUsable : Bool) : EngineState :=
  if !allLive then .unplanned else if axlesUsable then .running else .fallback

/-- At a boundary, the apportioner decides the engine state and posts STATE_CHANGE to all ports when it changes (R144,
R145). -/
def decideEngine (s : State) : State :=
  let engine := engineOf s.plan.allLive.isSome s.latched.axles.state.isUsable
  { s.postIf (decide (engine ≠ s.app.engine)) .stateChange allPorts with app := { s.app with engine := engine } }

/-- At a boundary, the evaluator and the apportioner do their work: in UNPLANNED the pending set is one of zeros (R103);
otherwise the shift and slip state is updated, the lanes are formed and the set is computed (R66, R82). -/
def apportionStep (s : State) : State :=
  match s.plan.allLive with
  | none => { s with app := { s.app with pendingSet := some (GrantSet.zero .unplanned 0) } }
  | some live =>
    let s' := postLanes live (shiftSlipStep live s)
    { s' with app := { s'.app with pendingSet := some (computeSet live s') } }

/-! ### Publication, abandonment, the zero set (R97, R102, R105, R106) -/

/-- The shortfall run count after a publish (R97). -/
def nextRun (threshold : Nat) (shortfall run : Nat) : Nat := if threshold < shortfall then min 50 (run + 1) else 0

/-- The run-posted mark after a publish (R97). -/
def nextRunPosted (threshold count : Nat) (shortfall run : Nat) (posted : Bool) : Bool :=
  decide (threshold < shortfall) && (posted || decide (count ≤ nextRun threshold shortfall run))

/-- SHORT_THRESHOLD and SHORT_COUNT of the live section C (R97); before section C is live every published SHORTFALL is
0 and the values do not matter. -/
def PlanStore.shortLimits (s : PlanStore) : Nat × Nat :=
  match s.c.live with
  | some c => (c.shortThreshold, c.shortCount)
  | none => (0, 1)

/-- The apportioner's part of the publish point: the pending set is stamped and published, the previous grants are
copied, the run count is updated; PUBLISHED, and SHORTFALL once for a run, go to all ports (R97, R102). -/
def publishSet (index : Nat) (s : State) : State :=
  match s.app.pendingSet with
  | none => s
  | some g =>
    let short := g.summary.shortfall
    let limits := s.plan.shortLimits
    let posted := nextRunPosted limits.1 limits.2 short s.app.runCount s.app.runPosted
    { (s.post .published allPorts).postIf (posted && !s.app.runPosted) .shortfall allPorts with
      app := { s.app with
        pendingSet := none,
        published := { g with periodIndex := index, valid := decide (g.summary.state ≠ .unplanned) },
        prevE := g.exhaust.grantN, prevR := g.retarder.grantN,
        runCount := nextRun limits.1 short s.app.runCount, runPosted := posted } }

/-- The pending set of an abandoned period is discarded (R105). -/
def discardSet (s : State) : State := { s with app := { s.app with pendingSet := none } }

/-- The apportioner's part of RESTART: no pending set, the zero set with the index and engine state kept, previous
grants 0, run count 0 and mark clear (R106). -/
def Apportioner.restarted (x : Apportioner) : Apportioner :=
  { pendingSet := none, published := GrantSet.zero x.engine x.published.periodIndex, prevE := 0, prevR := 0,
    runCount := 0, runPosted := false, engine := x.engine }

end Sys2Proof.Machine
end

