-- ==== Sys2Proof/Machine/Clock.lean ====
section
/-! DEFINITION. The period timer: the boundary with the work of every block, the positions of a period, the publish
point, the SYNC edge, RESTART at the timer (spec 01, R1 to R17), and the meanings of the timer's commands. -/

namespace Sys2Proof.Machine

open Sys2Proof

/-! ### The boundary (R5) -/

/-- The sync mode that a SYNC_MODE field codes (R127). -/
def syncModeOfCode (n : Nat) : SyncMode := if n = 0 then .free else .synced

/-- The timer's part of a boundary before the plan is copied: stamp the elapsed time, zero the counter, enter GUARD and
clear the restart request (R5). -/
def Timer.stamped (x : Timer) : Timer :=
  { x with delta := some x.counter, counter := 0, phase := .guarding, restartReq := false }

/-- The timer takes P, Q and the sync mode of the live section C (R3); in FREE mode the run count becomes 0 (R4,
R7). Before section C is live the values stay as they are (R3). -/
def Timer.takePeriod (x : Timer) (c : Option PlanC) : Timer :=
  match c with
  | none => x
  | some c =>
    let mode := syncModeOfCode c.syncMode
    { x with p := c.p, q := c.q, mode := mode, runCount := if mode = .free then 0 else x.runCount }

/-- The timer's part of a boundary, with the pending set of an abandoned period discarded (R5, R105). -/
def stampBoundary (s : State) : State := { discardSet s with timer := s.timer.stamped }

/-- The timer's taking of the period's values, once the plan has been copied (R3). -/
def takePeriod (s : State) : State := { s with timer := s.timer.takePeriod s.plan.c.live }

/-- A boundary, whatever its cause (R5): the timer, the plan store, report intake, the demand table's ageing, the engine
state, the speed-hold loop, the heat accounts, and the evaluator with the apportioner, in the order that R144 and the
blocks' own chapters give. -/
def makeBoundary (s : State) : State :=
  apportionStep (heatStep (holdStep (decideEngine (ageDemand (ageReports (takePeriod (copyPlan (stampBoundary s))))))))

/-! ### Positions of a period (R1, R2) -/

/-- The positions that the counter can reach (R1). -/
inductive Position where
  | restartBoundary | startEnd | guardEnd | publishPoint | freeBoundary | syncDeadline
  deriving DecidableEq, Repr

/-- The SYNC deadline of a period of P ms (R1). -/
def syncDeadline (p : Nat) : Nat := p * 10 + p * 10 / 4

/-- The position that the counter has reached and that has not been taken, if any. -/
def Timer.due (x : Timer) : Option Position :=
  match x.phase with
  | .start =>
    if x.restartReq then (if Config.guardTicks ≤ x.counter then some .restartBoundary else none)
    else if Config.startTicks ≤ x.counter then some .startEnd else none
  | .guarding =>
    if x.counter < Config.guardTicks then none else if x.restartReq then some .restartBoundary else some .guardEnd
  | .openPhase => if x.q * 10 ≤ x.counter then some .publishPoint else none
  | .closed =>
    match x.mode with
    | .free => if x.p * 10 ≤ x.counter then some .freeBoundary else none
    | .synced => if syncDeadline x.p ≤ x.counter then some .syncDeadline else none

/-- The first boundary, at the end of the start interval (R6). -/
def takeStartEnd (s : State) : State := makeBoundary s

/-- The guard end: the period moves to OPEN (R2). -/
def takeGuardEnd (s : State) : State := { s with timer := { s.timer with phase := .openPhase } }

/-- The period index after a publish (R9). -/
def nextIndex (n : Nat) : Nat := (n + 1) % 65536

/-- The publish point: the index advances, the apportioner publishes, the phase becomes CLOSED (R9, R102). -/
def takePublishPoint (s : State) : State :=
  { publishSet (nextIndex s.timer.index) s with
    timer := { s.timer with index := nextIndex s.timer.index, phase := .closed } }

/-- The free boundary (R7). -/
def takeFreeBoundary (s : State) : State := makeBoundary s

/-- The self-boundary: the run count rises, held at 3; SYNC_LOST goes to ports B and C when it becomes 3 (R14, R15). -/
def takeSyncDeadline (s : State) : State :=
  makeBoundary { s.postIf (decide (s.timer.runCount = 2)) .syncLost [.b, .c] with
    timer := { s.timer with runCount := min 3 (s.timer.runCount + 1) } }

/-- The boundary requested by RESTART (R17). -/
def takeRestartBoundary (s : State) : State := makeBoundary s

/-- The timer takes a position. -/
def takePosition (x : Position) (s : State) : State :=
  match x with
  | .restartBoundary => takeRestartBoundary s
  | .startEnd => takeStartEnd s
  | .guardEnd => takeGuardEnd s
  | .publishPoint => takePublishPoint s
  | .freeBoundary => takeFreeBoundary s
  | .syncDeadline => takeSyncDeadline s

/-- The timer takes a position if it is the one that is due; otherwise that event has not come about and nothing
happens (assumption 3). -/
def takeIfDue (x : Position) (s : State) : State :=
  if !s.resetHeld && decide (s.timer.due = some x) then takePosition x s else s

/-! ### The SYNC edge (R10 to R13) -/

/-- The timer takes the rising edge sampled at this tick: ignored in FREE mode and in GUARD, an early edge in OPEN, a
normal boundary in CLOSED (R10 to R13). -/
def takeSyncEdge (s : State) : State :=
  let s' : State := { s with timer := { s.timer with syncEdge := false } }
  match s.timer.mode, s.timer.phase with
  | .synced, .openPhase =>
    makeBoundary { s'.post .syncEarly [.b] with timer := { s'.timer with runCount := 0 } }
  | .synced, .closed => makeBoundary { s' with timer := { s'.timer with runCount := 0 } }
  | _, _ => s'

/-! ### RESTART at the timer (R16) -/

/-- RESTART at the timer: a boundary at once, or a request while the counter is below 20 in START, and in GUARD
(R16). -/
def restartTimer (s : State) : State :=
  match s.timer.phase with
  | .start =>
    if s.timer.counter < Config.guardTicks then { s with timer := { s.timer with restartReq := true } }
    else makeBoundary s
  | .guarding => { s with timer := { s.timer with restartReq := true } }
  | .openPhase => makeBoundary s
  | .closed => makeBoundary s

/-! ### The tick (R1, R10) -/

/-- The timer takes one event of this tick that the sender has left untaken: a position that is due, or the sampled
edge. Where both stand and the mode is SYNCED, the free value says which comes first (R12, R13; assumption 2); in FREE
mode the edge is ignored in either order. -/
def settleOne (s : State) : State :=
  match s.timer.due, s.timer.syncEdge with
  | none, false => s
  | none, true => takeSyncEdge s
  | some x, false => takePosition x s
  | some x, true =>
    match s.timer.mode with
    | .free => takeSyncEdge s
    | .synced =>
      let s' : State := { s with tieDraws := s.tieDraws + 1 }
      if Config.syncEdgeFirst s.tieDraws then takeSyncEdge s' else takePosition x s'

/-- The timer takes every event of this tick that is left untaken: at most a guard end, a publish point and an edge, or
a boundary and an edge (R1; assumption 3). -/
def settleTick (s : State) : State := settleOne (settleOne (settleOne s))

/-- The counter advances, and SYNC is sampled: a high sample after a low one is a rising edge (R1, R10). -/
def Timer.advance (x : Timer) (sync : Bool) : Timer :=
  { x with counter := x.counter + 1, syncEdge := sync && !x.syncPrev, syncPrev := sync }

/-- One tick while RESET is released (R1). -/
def passTick (sync : Bool) (s : State) : State :=
  let s' := settleTick s
  { s' with timer := s'.timer.advance sync }

/-! ### Reset (R6, R152) -/

/-- A port controller after device reset; the level of its select is an input and stays (R154, R155). -/
def PortControl.resetKeeping (x : PortControl) : PortControl := { PortControl.reset with sel := x.sel }

/-- Device reset: every block at its reset values, RESET held. The levels of the selects, the queue and the count of
free values drawn stay (R6, R152). -/
def resetState (s : State) : State :=
  { State.reset with
    resetHeld := true, ports := s.ports.map (fun _ x => x.resetKeeping), tieDraws := s.tieDraws,
    pending := s.pending }

/-- Reset release: the start interval begins, and the level of SYNC counts as the previous sample (R6, R10). A select
that is asserted here finds its port IDLE, so it is no exchange until it has been released once (R155). -/
def releaseReset (sync : Bool) (s : State) : State :=
  { s with
    resetHeld := false, timer := { s.timer with syncPrev := sync, syncEdge := false } }

/-! ### The meanings of the timer's commands -/

/-- DEVICE_RESET (R152). -/
def execDeviceReset (s : State) : Host.Outcome State Fault Refusal := .next (resetState s)

/-- RESET_RELEASE (R6); nothing happens while RESET is not held. -/
def execResetRelease (sync : Bool) (s : State) : Host.Outcome State Fault Refusal :=
  .next (if s.resetHeld then releaseReset sync s else s)

/-- START_INTERVAL_END (R6). -/
def execStartIntervalEnd (s : State) : Host.Outcome State Fault Refusal := .next (takeIfDue .startEnd s)

/-- GUARD_END (R2). -/
def execGuardEnd (s : State) : Host.Outcome State Fault Refusal := .next (takeIfDue .guardEnd s)

/-- PUBLISH_POINT (R9). -/
def execPublishPoint (s : State) : Host.Outcome State Fault Refusal := .next (takeIfDue .publishPoint s)

/-- FREE_BOUNDARY (R7). -/
def execFreeBoundary (s : State) : Host.Outcome State Fault Refusal := .next (takeIfDue .freeBoundary s)

/-- SELF_BOUNDARY (R14). -/
def execSelfBoundary (s : State) : Host.Outcome State Fault Refusal := .next (takeIfDue .syncDeadline s)

/-- RESTART_REQUEST_BOUNDARY (R17). -/
def execRestartRequestBoundary (s : State) : Host.Outcome State Fault Refusal := .next (takeIfDue .restartBoundary s)

/-- SYNC_EDGE (R10); nothing happens where no edge of this tick waits to be taken. -/
def execSyncEdge (s : State) : Host.Outcome State Fault Refusal :=
  .next (if !s.resetHeld && s.timer.syncEdge then takeSyncEdge s else s)

/-- TICK (R1, R10); while RESET is held the counter does not advance and SYNC is not sampled (R6). -/
def execTick (sync : Bool) (s : State) : Host.Outcome State Fault Refusal :=
  .next (if s.resetHeld then s else passTick sync s)

end Sys2Proof.Machine
end

