-- ==== Sys2Proof/Machine/Records.lean ====
section
/-! DEFINITION. The record classes, their indices and permissions, and the bytes of each record as a READ shows it
(spec 09, R157, R163 to R169). -/

namespace Sys2Proof.Machine

open Sys2Proof

/-- The record classes (R157, R167). -/
inductive RecordClass where
  | ident | portStatus | events | eventMask | demand | holdSet | report | grant | heat | planStaged | planLive | seed
  deriving DecidableEq, Repr

/-- The class of a class code (R167). -/
def classOfCode : Nat → Option RecordClass
  | 1 => some .ident
  | 2 => some .portStatus
  | 3 => some .events
  | 4 => some .eventMask
  | 5 => some .demand
  | 6 => some .holdSet
  | 7 => some .report
  | 8 => some .grant
  | 9 => some .heat
  | 10 => some .planStaged
  | 11 => some .planLive
  | 12 => some .seed
  | _ => none

/-- The greatest index of a class (R157). -/
def lastIndex : RecordClass → Nat
  | .ident => 0
  | .portStatus => 3
  | .events => 3
  | .eventMask => 3
  | .demand => 2
  | .holdSet => 0
  | .report => 3
  | .grant => 5
  | .heat => 2
  | .planStaged => 10
  | .planLive => 10
  | .seed => 0

/-! ### Codes: positions in the lists of values (R166) -/

/-- STATE of a report (R169). -/
def reportCode : ReportState → Nat
  | .absent => 0
  | .fresh => 1
  | .aging => 2
  | .expired => 3

/-- STATE of the summary record (R168). -/
def engineCode : EngineState → Nat
  | .unplanned => 0
  | .running => 1
  | .fallback => 2

/-- The number of a result code (R163). -/
def resultNumber : ResultCode → Nat
  | .none => 0
  | .ok => 1
  | .seedPartial => 2
  | .framing => 3
  | .wait => 4
  | .unterminated => 5
  | .overrun => 6
  | .unknown => 7
  | .length => 8
  | .owner => 9
  | .pending => 10
  | .invalid => 11
  | .range => 12
  | .state => 13

/-! ### Records -/

/-- IDENT (R164). -/
def sendIdent (p : Port) : List Byte :=
  send16 Config.vendorCode ++ send16 Config.partCode ++ send8 Config.revision ++ send8 (portNumber p)

/-- PORT_STATUS (R163). -/
def sendPortStatus (x : PortControl) : List Byte :=
  sendFlag x.status ++ send8 x.errors ++ send8 x.last.command ++ send8 x.last.cls ++ send8 x.last.index ++
  send8 (resultNumber x.last.code) ++ send8 x.last.detail1 ++ send8 x.last.detail2 ++ send8 x.last.detail3

/-- EVENTS: byte k is the count of kind k (R167, R174). -/
def sendEvents (c : EventCounts) : List Byte := allKinds.flatMap (fun k => send8 (c.get k))

/-- A written entry of DEMAND (R43): EMPTY 0, FRESH 1, AGING 2. -/
def sendEntry (soft : Nat) (x : Option DemandEntry) : List Byte :=
  match x with
  | none => send8 0 ++ send8 0 ++ send16 0
  | some entry => send8 (if soft ≤ entry.age then 2 else 1) ++ send8 entry.age ++ send16 entry.value

/-- The HOLD entry of DEMAND (R43). -/
def sendHoldEntry (x : Option Nat) : List Byte :=
  match x with
  | none => send8 0 ++ send8 0 ++ send16 0
  | some v => send8 1 ++ send8 0 ++ send16 v

/-- DEMAND by index (R43). -/
def sendDemand (s : State) : Nat → List Byte
  | 0 => sendEntry s.plan.ages.1 s.demand.pedal
  | 1 => sendEntry s.plan.ages.1 s.demand.stalk
  | _ => sendHoldEntry s.demand.hold

/-- HOLD_SET (R45). -/
def sendHoldSet (d : Demand) : List Byte := sendFlag d.holdEnabled ++ send16 d.setSpeed

/-- An optional signed torque (R166). -/
def sendAchievedTorque (x : Option Int) : List Byte := sendFlag x.isSome ++ sendSigned16 (x.getD 0)

/-- One axle of AXLES (R169). -/
def sendAxleReport (x : AxleReport) : List Byte :=
  send16 x.pmax ++ sendFlag x.achieved.isSome ++ send16 (x.achieved.getD 0) ++ sendFlag x.slip

/-- REPORT by index (R65, R169). -/
def sendReport (r : Reports) : Nat → List Byte
  | 0 => send8 (reportCode r.exhaust.state) ++ send8 r.exhaust.age ++ send16 r.exhaust.fields.rpm ++
         send8 r.exhaust.fields.avail ++ sendAchievedTorque r.exhaust.fields.achieved
  | 1 => send8 (reportCode r.trans.state) ++ send8 r.trans.age ++ send16 r.trans.fields.rpm ++
         send8 r.trans.fields.avail ++ sendAchievedTorque r.trans.fields.achieved ++ send16 r.trans.fields.gear ++
         sendFlag r.trans.fields.shifting
  | 2 => send8 (reportCode r.axles.state) ++ send8 r.axles.age ++ send16 r.axles.fields.speed ++
         sendAxleReport r.axles.fields.axle.front ++ sendAxleReport r.axles.fields.axle.drive ++
         sendAxleReport r.axles.fields.axle.tag
  | _ => send8 (if r.vehicle.written then 1 else 0) ++ send8 0 ++ send16 r.vehicle.mass ++
         sendSigned16 r.vehicle.ambient

/-- The flags byte of an actuator record, bit 7 RAMPED to bit 0 FROZEN (R168). -/
def flagsByte (f : GrantFlags) : Nat :=
  (if f.ramped then 128 else 0) + (if f.capped then 64 else 0) + (if f.slipCut then 32 else 0) +
  (if f.shiftGap then 16 else 0) + (if f.aging then 8 else 0) + (if f.expired then 4 else 0) +
  (if f.novalue then 2 else 0) + (if f.frozen then 1 else 0)

/-- An actuator record of a set (R168). -/
def sendActuator (g : GrantSet) (a : ActuatorGrant) : List Byte :=
  send16 g.periodIndex ++ sendFlag g.valid ++ send32 a.grantN ++ send16 a.units ++ send32 a.capacity ++
  send8 (flagsByte a.flags)

/-- The summary record of a set (R168). -/
def sendSummary (g : GrantSet) : List Byte :=
  send16 g.periodIndex ++ sendFlag g.valid ++ send8 (engineCode g.summary.state) ++ send32 g.summary.d ++
  send32 g.summary.dSvc ++ send32 g.summary.eCap ++ send32 g.summary.xE ++ send32 g.summary.xR ++
  send32 g.summary.s ++ send32 g.summary.shortfall ++ send16 g.summary.holdValue

/-- GRANT by index: 0 exhaust, 1 retarder, 2 front, 3 drive, 4 tag, 5 summary (R99, R168). -/
def sendGrant (g : GrantSet) : Nat → List Byte
  | 0 => sendActuator g g.exhaust
  | 1 => sendActuator g g.retarder
  | 2 => sendActuator g g.service.front
  | 3 => sendActuator g g.service.drive
  | 4 => sendActuator g g.service.tag
  | _ => sendSummary g

/-- A heat account (R121). -/
def sendAccount (a : HeatAccount) : List Byte :=
  sendSigned16 (sixteenths a.temp) ++ send8 (heatRank a.state) ++ sendFlag a.seeded

/-- HEAT by index: 0 front, 1 drive, 2 tag (R121). -/
def sendHeat (h : PerAxle HeatAccount) : Nat → List Byte
  | 0 => sendAccount h.front
  | 1 => sendAccount h.drive
  | _ => sendAccount h.tag

/-- PLAN_STAGED by index: the commit-pending mark, then the part (R130, R166). -/
def sendStaged (s : PlanStore) (index : Nat) : List Byte :=
  sendFlag (s.isPending (partOwner index)) ++ sendPart s.stagedCopy index

/-- RAMP_STEP after the live parts E.MAIN and T.MAIN (R130, R166). -/
def sendRampStep (s : PlanStore) : Nat → List Byte
  | 0 => send16 (s.stepE.getD 0)
  | 2 => send16 (s.stepT.getD 0)
  | _ => []

/-- PLAN_LIVE by index: LIVE, then the part, then RAMP_STEP for indices 0 and 2 (R130, R166). -/
def sendLive (s : PlanStore) (index : Nat) : List Byte :=
  sendFlag (s.isLive (partOwner index)) ++ sendPart s.liveShown index ++ sendRampStep s index

/-- One port's value by a record index, port C's for 3 and above. -/
def byIndex {α : Type} (x : PerPort α) : Nat → α
  | 0 => x.e
  | 1 => x.t
  | 2 => x.b
  | _ => x.c

/-- The record that a READ at port `p` takes as its snapshot; none where the header names no valid record (R157,
R158). -/
def readRecord (s : State) (p : Port) (cls index : Nat) : Option (List Byte) :=
  match classOfCode cls with
  | none => none
  | some k =>
    if lastIndex k < index then none
    else match k with
      | .ident => some (sendIdent p)
      | .portStatus => some (sendPortStatus (byIndex s.ports index))
      | .events => some (sendEvents (byIndex s.events index).counts)
      | .eventMask => some (send16 (byIndex s.events index).mask.toNat)
      | .demand => some (sendDemand s index)
      | .holdSet => some (sendHoldSet s.demand)
      | .report => some (sendReport s.reports index)
      | .grant => some (sendGrant s.app.published index)
      | .heat => some (sendHeat s.heat.accounts index)
      | .planStaged => some (sendStaged s.plan index)
      | .planLive => some (sendLive s.plan index)
      | .seed => none

/-- The port that may WRITE a record, none where no port may (R157). -/
def writerOf (k : RecordClass) (index : Nat) : Option Port :=
  match k with
  | .ident => none
  | .portStatus => portOfNumber index
  | .events => none
  | .eventMask => portOfNumber index
  | .demand => if index = 0 then some .b else if index = 1 then some .c else none
  | .holdSet => some .c
  | .report => portOfNumber index
  | .grant => none
  | .heat => none
  | .planStaged => some (partOwner index)
  | .planLive => none
  | .seed => some .b

/-- The write length that a record requires; none where no length will do (R129), and `some none` where the record has
no write length (R161, R166). -/
def writeLength (k : RecordClass) (index : Nat) (data : List Byte) : Option (Option Nat) :=
  match k with
  | .ident => some none
  | .portStatus => some (some 1)
  | .events => some none
  | .eventMask => some (some 2)
  | .demand => if index ≤ 1 then some (some 2) else some none
  | .holdSet => some (some 3)
  | .report =>
    match index with
    | 0 => some (some 6)
    | 1 => some (some 9)
    | 2 => some (some 20)
    | _ => some (some 4)
  | .grant => some none
  | .heat => some none
  | .planStaged => (partLength index data).map some
  | .planLive => some none
  | .seed => some (some 9)

end Sys2Proof.Machine
end

