-- ==== Sys2Proof/Machine/Exchange.lean ====
section
/-! DEFINITION. The port controllers: selection, bytes taken, the checks at the release of select, and what each
outcome leaves (spec 09, R154 to R162), with the meanings of SELECT_ASSERT and BYTE_TAKEN. -/

namespace Sys2Proof.Machine

open Sys2Proof

/-! ### Selection and bytes (R154 to R158) -/

/-- A port controller as its select is asserted: the status bit on DO, the bitmap of this exchange taken, phase PREFIX
(R155, R156; the moment of the bitmap: assumption 9). -/
def PortControl.selected (x : PortControl) (bitmap : KindBits) : PortControl :=
  { x with sel := true, dout := .status x.status, phase := .inPrefix, xch := Exchange.empty, snapshot := none,
           bitmap := bitmap }

/-- The command code of H0, its upper four bits (R156). -/
def commandOf (h0 : Byte) : Nat := h0.toNat / 16

/-- The class code of H0, its lower four bits (R156). -/
def classOf (h0 : Byte) : Nat := h0.toNat % 16

/-- The command code as received, 0 if H0 did not arrive (R162). -/
def Exchange.command (x : Exchange) : Nat :=
  match x.h0 with
  | none => 0
  | some h => commandOf h

/-- The class code as received, 0 if H0 did not arrive (R162). -/
def Exchange.cls (x : Exchange) : Nat :=
  match x.h0 with
  | none => 0
  | some h => classOf h

/-- The index as received, 0 if H1 did not arrive (R162). -/
def Exchange.index (x : Exchange) : Nat :=
  match x.h1 with
  | none => 0
  | some h => h.toNat

/-- The exchange with a data byte of DATA_IN: stored while there is room, always counted (R159). -/
def Exchange.withData (x : Exchange) (v : Byte) : Exchange :=
  { x with data := if x.data.length < Config.maxData then x.data ++ [v] else x.data, count := x.count + 1 }

/-- The exchange with one more whole byte counted. -/
def Exchange.counted (x : Exchange) : Exchange := { x with bits := x.bits + 8 }

/-- The high byte of the bitmap. -/
def highByte (x : KindBits) : Byte := BitVec.ofNat 8 (x.toNat / 256)

/-- The low byte of the bitmap. -/
def lowByte (x : KindBits) : Byte := BitVec.ofNat 8 x.toNat

/-- The snapshot's length in bytes, 0 if none was taken (R158). -/
def snapshotLength (x : Option (List Byte)) : Nat := (x.getD []).length

/-- A port controller after a byte: the byte is taken in the phase it meets, and the byte of R154's table is shifted
out with it. -/
def PortControl.takeByte (x : PortControl) (record : Nat → Nat → Option (List Byte)) (v : Byte) : PortControl :=
  let xch := x.xch.counted
  match x.phase with
  | .idle => x
  | .inPrefix =>
    if v = 0 then { x with xch := xch, dout := .byte (highByte x.bitmap) }
    else { x with xch := { xch with h0 := some v }, phase := .inIndex, dout := .byte (highByte x.bitmap) }
  | .inIndex =>
    let x' : PortControl := { x with xch := { xch with h1 := some v }, dout := .byte (lowByte x.bitmap) }
    if x.xch.command = 1 then { x' with phase := .inWait, snapshot := record x.xch.cls v.toNat }
    else { x' with phase := .dataIn }
  | .inWait =>
    { x with xch := { xch with wait := some v }, phase := .readOut,
             dout := .byte (BitVec.ofNat 8 (snapshotLength x.snapshot)) }
  | .readOut =>
    let out : Byte := (x.snapshot.getD []).getD x.xch.count 0
    if v = 0xFF#8 then
      { x with xch := { xch with count := x.xch.count + 1, terminated := true }, phase := .ended, dout := .byte out }
    else { x with xch := { xch with count := x.xch.count + 1 }, dout := .byte out }
  | .ended => { x with xch := { xch with overrun := true }, dout := .byte 0 }
  | .dataIn => { x with xch := xch.withData v, dout := .byte 0 }

/-! ### The port controller's own checks (R157, R161) -/

/-- Whether the number of bits sampled is not a multiple of 8 (R161). -/
def Exchange.isRagged (x : Exchange) (stray : Nat) : Bool := decide ((x.bits + stray) % 8 ≠ 0)

/-- Whether a READ has more data bytes than its snapshot, where one was taken (R161). -/
def pastSnapshot (x : Exchange) (snapshot : Option (List Byte)) : Bool :=
  match snapshot with
  | none => false
  | some r => decide (r.length < x.count)

/-- The record that an index of a class names, when the index has arrived and lies in the class's range (R157). -/
def Exchange.record (x : Exchange) : Option (RecordClass × Nat) :=
  match classOfCode x.cls, x.h1 with
  | some k, some h => if h.toNat ≤ lastIndex k then some (k, h.toNat) else none
  | _, _ => none

/-- The first failing check of a READ (R161); `snapshot` is what the port took at H1. -/
def readFault (x : Exchange) (snapshot : Option (List Byte)) (stray : Nat) : Option ResultCode :=
  if x.isRagged stray then some .framing
  else if x.wait ≠ some 0xFF#8 then some .wait
  else if !x.terminated then some .unterminated
  else if x.overrun || pastSnapshot x snapshot then some .overrun
  else match x.record with
    | none => some .unknown
    | some (k, _) => if k = .seed then some .unknown else none

/-- The first of the port's own checks that a WRITE fails (R157, R161). -/
def writeFault (p : Port) (x : Exchange) (stray : Nat) : Option ResultCode :=
  if x.isRagged stray then some .framing
  else match x.record with
    | none => some .unknown
    | some (k, i) =>
      match writeLength k i x.data with
      | none => some .length
      | some required =>
        if required ≠ none ∧ required ≠ some x.count then some .length
        else if writerOf k i ≠ some p then some .owner
        else none

/-- The first of the port's own checks that a COMMIT or a WITHDRAW fails (R157, R161): class PLAN_STAGED, no data
bytes, the section's owner. -/
def planCommandFault (p : Port) (x : Exchange) (stray : Nat) : Option ResultCode :=
  if x.isRagged stray then some .framing
  else match x.record with
    | some (.planStaged, i) =>
      if x.count ≠ 0 then some .length else if partOwner i ≠ p then some .owner else none
    | _ => some .unknown

/-- The first check that an ACK fails (R157, R161, R175): class EVENTS, sixteen data bytes, the port's own index. -/
def ackFault (p : Port) (x : Exchange) (stray : Nat) : Option ResultCode :=
  if x.isRagged stray then some .framing
  else match x.record with
    | some (.events, i) =>
      if x.count ≠ 16 then some .length else if portOfNumber i ≠ some p then some .owner else none
    | _ => some .unknown

/-- The first check that a RESTART fails (R149, R157, R161): class field 0 and index 0, no data bytes, port C. -/
def restartFault (p : Port) (x : Exchange) (stray : Nat) : Option ResultCode :=
  if x.isRagged stray then some .framing
  else if x.cls ≠ 0 ∨ x.h1 ≠ some 0#8 then some .unknown
  else if x.count ≠ 0 then some .length
  else if p ≠ .c then some .owner
  else none

/-- The check that an exchange with no known command fails (R161). -/
def unknownFault (x : Exchange) (stray : Nat) : ResultCode := if x.isRagged stray then .framing else .unknown

/-! ### What the release leaves (R155, R160, R162) -/

/-- A port controller after the release of select: IDLE, DO in high impedance, nothing collected; status, error count
and last result as they were (R154, R155, R156). -/
def PortControl.released (x : PortControl) : PortControl :=
  { x with sel := false, dout := .highZ, phase := .idle, xch := Exchange.empty, snapshot := none }

/-- The last result of an exchange (R162). -/
def resultOf (x : Exchange) (code : ResultCode) (d1 d2 d3 : Nat) : LastResult :=
  { command := x.command, cls := x.cls, index := x.index, code := code, detail1 := d1, detail2 := d2, detail3 := d3 }

/-- A port controller after a failed exchange: the error count rises, held at 255, and the status bit is 0 (R162). -/
def PortControl.failed (x : PortControl) (code : ResultCode) (d1 d2 d3 : Nat) : PortControl :=
  { x.released with status := false, errors := min 255 (x.errors + 1), last := resultOf x.xch code d1 d2 d3 }

/-- A port controller after a good exchange (R162). -/
def PortControl.passed (x : PortControl) (code : ResultCode) (d1 : Nat) : PortControl :=
  { x.released with status := true, last := resultOf x.xch code d1 0 0 }

/-- The state with a failed exchange at a port: no record changes and no command acts (R162). -/
def failExchange (p : Port) (code : ResultCode) (d1 d2 d3 : Nat) (s : State) : State :=
  s.setPort p ((s.port p).failed code d1 d2 d3)

/-- The state with a good exchange at a port recorded. -/
def passExchange (p : Port) (code : ResultCode) (d1 : Nat) (s : State) : State :=
  s.setPort p ((s.port p).passed code d1)

/-- What the block that takes an exchange answers: it acts, it acts with SEED_PARTIAL and the ignored axles, or it
refuses the exchange whole with a code and detail (R160, R162). -/
inductive Answer where
  | done (s : State)
  | partly (s : State) (ignored : Nat)
  | refuse (code : ResultCode) (d1 d2 d3 : Nat)
  deriving DecidableEq, Repr

/-- The outcome of an exchange at a port from the block's answer (R160, R162). -/
def settleExchange (p : Port) (s : State) (a : Answer) : State :=
  match a with
  | .done s' => passExchange p .ok 0 s'
  | .partly s' ignored => passExchange p .seedPartial ignored s'
  | .refuse code d1 d2 d3 => failExchange p code d1 d2 d3 s

/-- The release of select on an exchange of the kind that a command names: the port's own checks, then the block that
takes it (R160 to R162). Where the port has no such exchange open, the event has not come about and nothing happens
(assumption 4). -/
def releaseExchange (p : Port) (isKind : Exchange → Bool) (fault : Exchange → Option ResultCode)
    (act : Exchange → State → Answer) (s : State) : State :=
  let x := (s.port p).xch
  if (s.port p).phase = .idle ∨ isKind x = false then s
  else match fault x with
    | some code => failExchange p code 0 0 0 s
    | none => settleExchange p s (act x s)

/-! ### The meanings of SELECT_ASSERT and BYTE_TAKEN -/

/-- SELECT_ASSERT (R155, R156): while RESET is held only the level of the select changes; a select already asserted has
no edge. -/
def execSelectAssert (p : Port) (s : State) : Host.Outcome State Fault Refusal :=
  .next (
    if (s.port p).sel then s
    else if s.resetHeld then s.setPort p { s.port p with sel := true }
    else s.setPort p ((s.port p).selected (s.events.get p).bitmap))

/-- BYTE_TAKEN (R154, R156, R158, R159): the snapshot of a READ is taken as its H1 is. -/
def execByteTaken (p : Port) (v : Byte) (s : State) : Host.Outcome State Fault Refusal :=
  .next (s.setPort p ((s.port p).takeByte (readRecord s p) v))

end Sys2Proof.Machine
end

