-- ==== Sys2Proof/Machine/Exchanges.lean ====
section
/-! DEFINITION. The meanings of the release commands: the release of a port's select on an exchange of each kind (spec
09, R160), with the action of the block that takes it. -/

namespace Sys2Proof.Machine

open Sys2Proof

/-- A WRITE of a class. -/
def isWriteOf (code : Nat) (x : Exchange) : Bool := decide (x.command = 2) && decide (x.cls = code)

/-- A WRITE of a class with no write behaviour of its own: no class, IDENT, EVENTS, GRANT, HEAT, PLAN_LIVE, or DEMAND at
an index above 1 (R157, R161). -/
def isPlainWrite (x : Exchange) : Bool :=
  decide (x.command = 2) &&
  match classOfCode x.cls with
  | none => true
  | some .ident => true
  | some .events => true
  | some .grant => true
  | some .heat => true
  | some .planLive => true
  | some .demand => decide (2 ≤ x.index)
  | _ => false

/-- An exchange of one command. -/
def isCommand (code : Nat) (x : Exchange) : Bool := decide (x.command = code) && x.h0.isSome

/-- An empty exchange: FILL bytes only, or no bytes (R156). -/
def isEmptyExchange (x : Exchange) : Bool := x.h0.isNone

/-- An exchange with no known command: a command code 7 to 15, code 0 with a class, or no whole H0 but a partial byte
(R161, R167; assumption 10). -/
def isUnknownCommand (stray : Nat) (x : Exchange) : Bool :=
  match x.h0 with
  | some h => decide (commandOf h = 0) || decide (7 ≤ commandOf h)
  | none => x.isRagged stray

/-! ### What the blocks do -/

/-- The plan store takes a staged write: PENDING while the section's mark is set (R128). -/
def takeStaged (p : Port) (x : Exchange) (s : State) : Answer :=
  if s.plan.isPending p then .refuse .pending 0 0 0
  else .done { s with plan := s.plan.writePart x.index x.data }

/-- The heat estimator takes a SEED write: RANGE with no present value, SEED_PARTIAL with a seeded account's (R123). -/
def takeSeed (x : Exchange) (s : State) : Answer :=
  if !seedHasValue x.data then .refuse .range 0 0 0
  else if seedDetail x.data s.heat.accounts = 0 then .done (storeSeed x.data s)
  else .partly (storeSeed x.data s) (seedDetail x.data s.heat.accounts)

/-- The event unit of the port takes a mask (R173). -/
def takeMask (p : Port) (x : Exchange) (s : State) : Answer :=
  .done { s with events := s.events.set p { s.events.get p with mask := kindBitsAt x.data 0 } }

/-- The port controller takes a WRITE of its PORT_STATUS: COUNT 0 clears the error count (R163). -/
def takePortStatus (p : Port) (x : Exchange) (s : State) : Answer :=
  .done (if byteAt x.data 0 = 0 then s.setPort p { s.port p with errors := 0 } else s)

/-- The plan store takes a COMMIT: PENDING, INVALID with the first failing check, or the mark set (R131). -/
def takeCommit (p : Port) (s : State) : Answer :=
  if s.plan.isPending p then .refuse .pending 0 0 0
  else match s.plan.checkStaged p with
    | some f => .refuse .invalid f.code f.part f.item
    | none => .done { s with plan := s.plan.setPending p true }

/-- The plan store takes a WITHDRAW: the mark cleared, or STATE where it is clear (R139). -/
def takeWithdraw (p : Port) (s : State) : Answer :=
  if s.plan.isPending p then .done { s with plan := s.plan.setPending p false } else .refuse .state 0 0 0

/-- The echoed count of a kind (R167, R175). -/
def echoOf (data : List Byte) (k : EventKind) : Nat := byteAt data (kindNumber k)

/-- The event unit of the port takes an ACK (R175). -/
def takeAck (p : Port) (x : Exchange) (s : State) : Answer :=
  .done { s with events := s.events.set p ((s.events.get p).acknowledge (echoOf x.data)) }

/-- The blocks' actions at a RESTART before the timer's: the zero set, the demand cleared, STATE_CHANGE posted to all
ports (R59, R106, R149, R150). -/
def restartBlocks (s : State) : State :=
  { s.post .stateChange allPorts with app := s.app.restarted, demand := Demand.reset }

/-- RESTART as a whole (R149). -/
def takeRestart (s : State) : Answer := .done (restartTimer (restartBlocks s))

/-! ### The meanings -/

/-- EMPTY_EXCHANGE (R156): the status bit, the error count and the last result stay. A selection that stood at reset
release, or that is released while RESET is held, is no exchange and leaves no trace (R155). -/
def execEmptyExchange (p : Port) (s : State) : Host.Outcome State Fault Refusal :=
  .next (if (s.port p).sel && isEmptyExchange (s.port p).xch then s.setPort p (s.port p).released else s)

/-- READ (R158): the outcome is recorded at the release; no other state changes. -/
def execRead (p : Port) (stray : Nat) (s : State) : Host.Outcome State Fault Refusal :=
  .next (releaseExchange p (isCommand 1) (fun x => readFault x (s.port p).snapshot stray) (fun _ s => .done s) s)

/-- WRITE_DEMAND (R38, R39). -/
def execWriteDemand (p : Port) (stray : Nat) (s : State) : Host.Outcome State Fault Refusal :=
  .next (releaseExchange p (isWriteOf 5) (fun x => writeFault p x stray)
    (fun x s => .done (storeDemand x.index x.data s)) s)

/-- WRITE_HOLD_SET (R45). -/
def execWriteHoldSet (p : Port) (stray : Nat) (s : State) : Host.Outcome State Fault Refusal :=
  .next (releaseExchange p (isWriteOf 6) (fun x => writeFault p x stray) (fun x s => .done (storeHoldSet x.data s)) s)

/-- WRITE_REPORT (R61). -/
def execWriteReport (p : Port) (stray : Nat) (s : State) : Host.Outcome State Fault Refusal :=
  .next (releaseExchange p (isWriteOf 7) (fun x => writeFault p x stray)
    (fun x s => .done (storeReport x.index x.data s)) s)

/-- WRITE_PLAN_STAGED (R128). -/
def execWritePlanStaged (p : Port) (stray : Nat) (s : State) : Host.Outcome State Fault Refusal :=
  .next (releaseExchange p (isWriteOf 10) (fun x => writeFault p x stray) (takeStaged p) s)

/-- WRITE_SEED (R122, R123). -/
def execWriteSeed (p : Port) (stray : Nat) (s : State) : Host.Outcome State Fault Refusal :=
  .next (releaseExchange p (isWriteOf 12) (fun x => writeFault p x stray) takeSeed s)

/-- WRITE_EVENT_MASK (R173). -/
def execWriteEventMask (p : Port) (stray : Nat) (s : State) : Host.Outcome State Fault Refusal :=
  .next (releaseExchange p (isWriteOf 4) (fun x => writeFault p x stray) (takeMask p) s)

/-- WRITE_PORT_STATUS (R163). -/
def execWritePortStatus (p : Port) (stray : Nat) (s : State) : Host.Outcome State Fault Refusal :=
  .next (releaseExchange p (isWriteOf 2) (fun x => writeFault p x stray) (takePortStatus p) s)

/-- WRITE (R157, R161): a class with no write behaviour; it passes LENGTH at any byte count and fails OWNER, or fails
UNKNOWN where the pairing is not allowed. No port may write it, so no block takes it. -/
def execWrite (p : Port) (stray : Nat) (s : State) : Host.Outcome State Fault Refusal :=
  .next (releaseExchange p isPlainWrite (fun x => writeFault p x stray) (fun _ s => .done s) s)

/-- COMMIT (R131). -/
def execCommit (p : Port) (stray : Nat) (s : State) : Host.Outcome State Fault Refusal :=
  .next (releaseExchange p (isCommand 3) (fun x => planCommandFault p x stray) (fun _ s => takeCommit p s) s)

/-- WITHDRAW (R139). -/
def execWithdraw (p : Port) (stray : Nat) (s : State) : Host.Outcome State Fault Refusal :=
  .next (releaseExchange p (isCommand 4) (fun x => planCommandFault p x stray) (fun _ s => takeWithdraw p s) s)

/-- ACK (R175). -/
def execAck (p : Port) (stray : Nat) (s : State) : Host.Outcome State Fault Refusal :=
  .next (releaseExchange p (isCommand 5) (fun x => ackFault p x stray) (takeAck p) s)

/-- RESTART (R149). -/
def execRestart (p : Port) (stray : Nat) (s : State) : Host.Outcome State Fault Refusal :=
  .next (releaseExchange p (isCommand 6) (fun x => restartFault p x stray) (fun _ s => takeRestart s) s)

/-- UNKNOWN_COMMAND (R161). -/
def execUnknownCommand (p : Port) (stray : Nat) (s : State) : Host.Outcome State Fault Refusal :=
  .next (releaseExchange p (isUnknownCommand stray) (fun x => some (unknownFault x stray)) (fun _ s => .done s) s)

end Sys2Proof.Machine
end

