-- ==== Sys2Proof/Machine/Dispatch.lean ====
section
/-! DEFINITION. One arm for each command: the call of its meaning. -/

namespace Sys2Proof.Machine

open Sys2Proof

/-- The effect of a command on everything but the queue. -/
def exec (i : Instr) (s : State) : Host.Outcome State Fault Refusal :=
  match i with
  | .deviceReset => Sys2Proof.Machine.execDeviceReset s
  | .resetRelease sync => Sys2Proof.Machine.execResetRelease sync s
  | .startIntervalEnd => Sys2Proof.Machine.execStartIntervalEnd s
  | .guardEnd => Sys2Proof.Machine.execGuardEnd s
  | .publishPoint => Sys2Proof.Machine.execPublishPoint s
  | .freeBoundary => Sys2Proof.Machine.execFreeBoundary s
  | .selfBoundary => Sys2Proof.Machine.execSelfBoundary s
  | .restartRequestBoundary => Sys2Proof.Machine.execRestartRequestBoundary s
  | .syncEdge => Sys2Proof.Machine.execSyncEdge s
  | .selectAssert p => Sys2Proof.Machine.execSelectAssert p s
  | .emptyExchange p => Sys2Proof.Machine.execEmptyExchange p s
  | .read p stray => Sys2Proof.Machine.execRead p stray s
  | .writeDemand p stray => Sys2Proof.Machine.execWriteDemand p stray s
  | .writeHoldSet p stray => Sys2Proof.Machine.execWriteHoldSet p stray s
  | .writeReport p stray => Sys2Proof.Machine.execWriteReport p stray s
  | .writePlanStaged p stray => Sys2Proof.Machine.execWritePlanStaged p stray s
  | .writeSeed p stray => Sys2Proof.Machine.execWriteSeed p stray s
  | .writeEventMask p stray => Sys2Proof.Machine.execWriteEventMask p stray s
  | .writePortStatus p stray => Sys2Proof.Machine.execWritePortStatus p stray s
  | .write p stray => Sys2Proof.Machine.execWrite p stray s
  | .commit p stray => Sys2Proof.Machine.execCommit p stray s
  | .withdraw p stray => Sys2Proof.Machine.execWithdraw p stray s
  | .ack p stray => Sys2Proof.Machine.execAck p stray s
  | .restart p stray => Sys2Proof.Machine.execRestart p stray s
  | .tick sync => Sys2Proof.Machine.execTick sync s
  | .byteTaken p v => Sys2Proof.Machine.execByteTaken p v s
  | .unknownCommand p stray => Sys2Proof.Machine.execUnknownCommand p stray s

end Sys2Proof.Machine
end

