-- ==== Sys2Proof/Safety.lean ====
section
/-! DEFINITION. What a state of a run satisfies, in the terms the claims use: the ranges that spec/ states for counts,
times, temperatures, ages and the plan, the accounts of a grant set, which lanes are above F_MAX, the checks of a COMMIT in
their order, and what it means that an exchange stands collected at a port or is ended by a command. -/

namespace Sys2Proof.Machine

open Sys2Proof

/-! ### Ranges -/

/-- Every event count stays within 0..255 (R171). -/
def CountsInRange (s : State) : Prop := ∀ p k, (s.events.get p).counts.get k ≤ 255

/-- Every port's error count stays within 0..255 (R162). -/
def ErrorsInRange (s : State) : Prop := ∀ p, (s.port p).errors ≤ 255

/-- A record of VEHICLE holds an ambient of its range (R61). -/
def AmbientInRange (r : Reports) : Prop := -40 ≤ r.vehicle.ambient ∧ r.vehicle.ambient ≤ 60

/-- Every heat account stays within -40 and 900 degrees C (R115), with the ambients that bound its cooling (R114). -/
def HeatInRange (s : State) : Prop :=
  (∀ i, Config.heatFloor ≤ (s.heat.accounts.get i).temp ∧ (s.heat.accounts.get i).temp ≤ Config.heatCeiling) ∧
  AmbientInRange s.reports ∧ AmbientInRange s.latched

/-- A section's live copy, and its staged copy while its mark is set, pass its COMMIT checks (R136, R137). -/
def Section.Checked {α : Type} (check : α → Option CheckFault) (x : Section α) : Prop :=
  (∀ v, x.live = some v → check v = none) ∧ (x.pending = true → check x.staged = none)

/-- Every live plan section satisfies all of its commit checks (R137), and so does every pending one (R136). -/
def PlanChecked (s : State) : Prop :=
  s.plan.e.Checked checkE ∧ s.plan.t.Checked checkT ∧ s.plan.b.Checked checkB ∧ s.plan.c.Checked checkC

/-- The greatest counter value of a period, where it stands (R1, R2, R17): the position that ends the phase. -/
def Timer.limit (x : Timer) : Nat :=
  match x.phase with
  | .start => if x.restartReq then Config.guardTicks else Config.startTicks
  | .guarding => Config.guardTicks
  | .openPhase => x.q * 10
  | .closed =>
    match x.mode with
    | .free => x.p * 10
    | .synced => syncDeadline x.p

/-- The least counter value of a phase (R2): OPEN is entered at the guard end, CLOSED at the publish point. -/
def Timer.entry (x : Timer) : Nat :=
  match x.phase with
  | .start => 0
  | .guarding => 0
  | .openPhase => Config.guardTicks
  | .closed => x.q * 10

/-- The timer's state lies in the ranges of R1 and R8, between the entry and the end of its phase. -/
def TimerInRange (x : Timer) : Prop :=
  x.entry ≤ x.counter ∧ x.counter ≤ x.limit ∧ x.counter ≤ 625 ∧
  10 ≤ x.p ∧ x.p ≤ 50 ∧ 2 ≤ x.q ∧ x.q + 2 ≤ x.p ∧
  (∀ d, x.delta = some d → 20 ≤ d ∧ d ≤ 625) ∧ x.index < 65536 ∧ x.runCount ≤ 3 ∧
  (x.mode = .free → x.runCount = 0) ∧
  (x.restartReq = true → x.phase = .start ∨ x.phase = .guarding)

/-- A computation is in flight in GUARD, unless RESTART has abandoned it, and in OPEN; none is in START and CLOSED
(R2, R17). -/
def PendingMatchesPhase (s : State) : Prop :=
  match s.timer.phase with
  | .start => s.app.pendingSet = none
  | .guarding => s.app.pendingSet.isSome = !s.timer.restartReq
  | .openPhase => s.app.pendingSet.isSome = true ∧ s.timer.restartReq = false
  | .closed => s.app.pendingSet = none

/-- The speed-hold integrator stays within 0 and HOLD_MAX x 1024 of the live section C; it is 0 before one is live
(R48, R50). -/
def IntegratorInRange (s : State) : Prop :=
  match s.plan.c.live with
  | some c => s.demand.integrator ≤ c.holdMax * 1024
  | none => s.demand.integrator = 0

/-- An entry or report age is at most 60 (R37, R60). -/
def AgesInRange (s : State) : Prop :=
  (∀ x, s.demand.pedal = some x → x.age ≤ 60) ∧ (∀ x, s.demand.stalk = some x → x.age ≤ 60) ∧
  s.reports.exhaust.age ≤ 60 ∧ s.reports.trans.age ≤ 60 ∧ s.reports.axles.age ≤ 60

/-- A port stores at most 33 data bytes of an exchange (R154, R159). -/
def DataInRange (s : State) : Prop := ∀ p, (s.port p).xch.data.length ≤ 33

/-! ### The accounts of a grant set -/

/-- A grant is at most its capacity, but for a FROZEN axle's (R99). -/
def ActuatorGrant.WithinCapacity (x : ActuatorGrant) : Prop := x.grantN ≤ x.capacity ∨ x.flags.frozen = true

/-- The sums that a set keeps: the endurance grants within the least of D and E_CAP, with the drive grant within E_CAP
(R91); the expected forces, the service grants and the shortfall make up D (R96); every grant within its capacity, a
FROZEN axle's apart (R99). -/
def GrantSet.Balanced (g : GrantSet) : Prop :=
  g.exhaust.grantN + g.retarder.grantN ≤ min g.summary.d g.summary.eCap ∧
  g.exhaust.grantN + g.retarder.grantN + g.service.drive.grantN ≤ g.summary.eCap ∧
  g.summary.xE + g.summary.xR + (g.service.front.grantN + g.service.drive.grantN + g.service.tag.grantN) +
    g.summary.shortfall = g.summary.d ∧
  g.exhaust.grantN ≤ g.exhaust.capacity ∧ g.retarder.grantN ≤ g.retarder.capacity ∧
  g.service.front.WithinCapacity ∧ g.service.drive.WithinCapacity ∧ g.service.tag.WithinCapacity

/-- The published set and the pending set keep their sums. -/
def SetsBalanced (s : State) : Prop := s.app.published.Balanced ∧ ∀ g, s.app.pendingSet = some g → g.Balanced

/-- Every grant of a set is 0 (R103). -/
def GrantSet.GrantsNothing (g : GrantSet) : Prop :=
  g.exhaust.grantN = 0 ∧ g.retarder.grantN = 0 ∧ g.service.front.grantN = 0 ∧ g.service.drive.grantN = 0 ∧
  g.service.tag.grantN = 0

/-- In UNPLANNED the published set has VALID clear and grants nothing (R103, R106); an engine that has left UNPLANNED has
four live sections, and a pending set shows the engine's state (R143, R144). -/
def UnplannedIsInvalid (s : State) : Prop :=
  (s.app.engine = .unplanned → s.app.published.valid = false ∧ s.app.published.GrantsNothing) ∧
  (s.app.engine ≠ .unplanned → s.plan.e.live.isSome = true ∧ s.plan.t.live.isSome = true ∧
    s.plan.b.live.isSome = true ∧ s.plan.c.live.isSome = true) ∧
  ∀ g, s.app.pendingSet = some g → g.summary.state = s.app.engine ∧ (s.app.engine = .unplanned → g.GrantsNothing)

/-- A published set with VALID clear grants nothing, and so does a pending set computed in UNPLANNED (R103, R106). -/
def InvalidSetsAreZero (s : State) : Prop :=
  (s.app.published.valid = false → s.app.published.GrantsNothing) ∧
  ∀ g, s.app.pendingSet = some g → g.summary.state = .unplanned → g.GrantsNothing

/-- The previous endurance grants are those of the published set, and a pending set's endurance grants exceed them by
at most a ramp step each (R81, R87). -/
def RampBounded (s : State) : Prop :=
  s.app.prevE = s.app.published.exhaust.grantN ∧ s.app.prevR = s.app.published.retarder.grantN ∧
  ∀ g, s.app.pendingSet = some g →
    g.exhaust.grantN ≤ s.app.prevE + s.plan.stepE.getD 0 ∧ g.retarder.grantN ≤ s.app.prevR + s.plan.stepT.getD 0

/-- The published set carries the timer's period index (R9, R102), which RESTART keeps (R106). -/
def IndexMatches (s : State) : Prop := s.app.published.periodIndex = s.timer.index

/-! ### Ageing at a boundary (R41, R63) -/

/-- What a boundary makes of a report record under a soft and a hard age (R63). -/
def Report.AgedTo {α : Type} (zero : α) (soft hard : Nat) (r r' : Report α) : Prop :=
  ((r.state = .absent ∨ r.state = .expired) → r' = r) ∧
  ((r.state = .fresh ∨ r.state = .aging) →
    (hard ≤ r.age + 1 → r' = { state := .expired, age := 0, mark := false, fields := zero }) ∧
    (r.age + 1 < hard → soft ≤ r.age + 1 →
      r' = { state := .aging, age := r.age + 1, mark := true, fields := r.fields }) ∧
    (r.age + 1 < hard → r.age + 1 < soft →
      r' = { state := .fresh, age := r.age + 1, mark := r.mark, fields := r.fields }))

/-- Whether a report record is discarded at a boundary (R63). -/
def Report.expires {α : Type} (hard : Nat) (r : Report α) : Bool :=
  (decide (r.state = .fresh) || decide (r.state = .aging)) && decide (hard ≤ r.age + 1)

/-- Whether a report record posts REFRESH at a boundary (R63). -/
def Report.refreshes {α : Type} (soft hard : Nat) (r : Report α) : Bool :=
  (decide (r.state = .fresh) || decide (r.state = .aging)) && decide (r.age + 1 < hard) &&
  decide (soft ≤ r.age + 1) && !r.mark

/-- What a boundary makes of a written demand entry under a soft and a hard age (R41). -/
def EntryAgedTo (soft hard : Nat) (x x' : Option DemandEntry) : Prop :=
  match x with
  | none => x' = none
  | some entry =>
    (hard ≤ entry.age + 1 → x' = none) ∧
    (entry.age + 1 < hard → soft ≤ entry.age + 1 →
      x' = some { value := entry.value, age := entry.age + 1, mark := true }) ∧
    (entry.age + 1 < hard → entry.age + 1 < soft →
      x' = some { value := entry.value, age := entry.age + 1, mark := entry.mark })

/-- Whether a demand entry is emptied at a boundary (R41). -/
def entryExpires (hard : Nat) (x : Option DemandEntry) : Bool :=
  match x with
  | none => false
  | some entry => decide (hard ≤ entry.age + 1)

/-- Whether a demand entry posts REFRESH at a boundary (R41). -/
def entryRefreshes (soft hard : Nat) (x : Option DemandEntry) : Bool :=
  match x with
  | none => false
  | some entry => decide (entry.age + 1 < hard) && decide (soft ≤ entry.age + 1) && !entry.mark

/-- A count after a number of postings (R171). -/
def raisedBy (count postings : Nat) : Nat := min 255 (count + postings)

/-- The soft age and the hard age that a live copy of section C, or none, gives (R42). -/
def agesOf (c : Option PlanC) : Nat × Nat :=
  match c with
  | some c => (c.softAge, c.hardAge)
  | none => (3, 10)

/-- Whether a report may be used: FRESH or AGING (R60). -/
def InUse (x : ReportState) : Prop := x = .fresh ∨ x = .aging

/-! ### Forces above F_MAX (R24, R25) -/

/-- The torque of E.CURVE at the latched engine speed (R67). -/
def exhaustCurve (e : PlanE) (r : Reports) : Option Int :=
  some (curveAt (roundingOfCode e.rounding) (r.exhaust.fields.rpm : Int) e.curve)

/-- The torque of T.CURVE at the latched shaft speed (R68). -/
def retarderCurve (t : PlanT) (r : Reports) : Option Int :=
  some (curveAt (roundingOfCode t.rounding) (r.trans.fields.rpm : Int) t.curve)

/-- Whether the exhaust lane of a torque that is present is NOVALUE: EXHAUST is in use, and the force with the latched gear
ratio, 0 where TRANS is not in use, is above F_MAX (R24, R28, R30). -/
def exhaustOver (e : PlanE) (t : PlanT) (r : Reports) (torque : Option Int) : Bool :=
  let inUse := fun x : ReportState => decide (x = .fresh) || decide (x = .aging)
  match torque with
  | none => false
  | some n => inUse r.exhaust.state && decide (exhaustForce (roundingOfCode e.rounding) n
      (if inUse r.trans.state then r.trans.fields.gear else 0) t.axleRatio t.radius = .novalue)

/-- Whether the retarder lane of a torque that is present is NOVALUE: TRANS is in use, and the force is above F_MAX (R24,
R27, R30). -/
def retarderOver (t : PlanT) (r : Reports) (torque : Option Int) : Bool :=
  match torque with
  | none => false
  | some n => (decide (r.trans.state = .fresh) || decide (r.trans.state = .aging)) &&
      decide (retarderForce (roundingOfCode t.rounding) n t.axleRatio t.radius = .novalue)

/-- Whether the force of a pressure that is present at an axle is NOVALUE: AXLES is in use, and the pressure times the gain
is above F_MAX (R24, R31). -/
def axleOver (b : PlanB) (r : Reports) (i : Axle) (kpa : Option Nat) : Bool :=
  match kpa with
  | none => false
  | some n => (decide (r.axles.state = .fresh) || decide (r.axles.state = .aging)) &&
      decide (400000 < n * (b.axles.get i).gain)

/-! ### The checks of a COMMIT, in their order (R135) -/

/-- The first check that fails, of checks listed in their order with whether each is met. -/
def firstFailing (checks : List (CheckFault × Bool)) : Option CheckFault :=
  (checks.find? fun c => !c.2).map fun c => c.1

/-- FIELD_RANGE of a part's fields in field order: low end, high end, value (R132, R135). -/
def fieldChecks (part : Nat) (fields : List (Nat × Nat × Nat)) : List (CheckFault × Bool) :=
  fields.zipIdx.map fun ((lo, hi, v), n) =>
    ({ code := 1, part := part, item := n + 1 }, decide (lo ≤ v) && decide (v ≤ hi))

/-- A check of each point but the first against the point before it; the item is the point's number (R135). -/
def neighbourChecks (code part : Nat) (ok : Point → Point → Bool) (points : List Point) : List (CheckFault × Bool) :=
  (points.zip points.tail).zipIdx.map fun ((q, r), n) => ({ code := code, part := part, item := n + 2 }, ok q r)

/-- The checks of a curve part: COUNT, then x and y of each point in turn, then CURVE_ORDER (R132, R133, R135); y is at
least 0. -/
def curveChecks (part : Nat) (xlo xhi yhi : Int) (points : List Point) : List (CheckFault × Bool) :=
  ({ code := 2, part := part, item := 0 }, decide (2 ≤ points.length) && decide (points.length ≤ 8)) ::
  (points.zipIdx.flatMap fun (q, n) =>
    [({ code := 3, part := part, item := n + 1 }, decide (xlo ≤ q.x) && decide (q.x ≤ xhi)),
      ({ code := 4, part := part, item := n + 1 }, decide (0 ≤ q.y) && decide (q.y ≤ yhi))]) ++
  neighbourChecks 5 part (fun q r => decide (q.x < r.x)) points

/-! ### Exchanges -/

/-- The command that takes a position of the timer (R1). -/
def positionCommand : Position → Instr
  | .restartBoundary => .restartRequestBoundary
  | .startEnd => .startIntervalEnd
  | .guardEnd => .guardEnd
  | .publishPoint => .publishPoint
  | .freeBoundary => .freeBoundary
  | .syncDeadline => .selfBoundary

/-- A release command of a port ends the exchange that stands open there, by the command and class of its header (R157,
R161, R167): where the port is at IDLE, and for an empty exchange, no release command but EMPTY_EXCHANGE does. A WRITE of
DEMAND at an index above 1 ends by WRITE_DEMAND and by WRITE alike (R39, R161). -/
def EndsExchange (s : State) (p : Port) (stray : Nat) (c : Instr) : Prop :=
  (s.port p).phase ≠ .idle ∧
  match (s.port p).xch.h0 with
  | none => c = .unknownCommand p stray ∧ ((s.port p).xch.bits + stray) % 8 ≠ 0
  | some h0 =>
    let command := h0.toNat / 16
    let cls := h0.toNat % 16
    let index := match (s.port p).xch.h1 with | none => 0 | some h1 => h1.toNat
    (command = 1 ∧ c = .read p stray) ∨
    (command = 2 ∧
      ((cls = 2 ∧ c = .writePortStatus p stray) ∨ (cls = 4 ∧ c = .writeEventMask p stray) ∨
        (cls = 5 ∧ c = .writeDemand p stray) ∨ (cls = 6 ∧ c = .writeHoldSet p stray) ∨
        (cls = 7 ∧ c = .writeReport p stray) ∨ (cls = 10 ∧ c = .writePlanStaged p stray) ∨
        (cls = 12 ∧ c = .writeSeed p stray) ∨
        ((cls = 0 ∨ cls = 1 ∨ cls = 3 ∨ cls = 8 ∨ cls = 9 ∨ cls = 11 ∨ 13 ≤ cls ∨ (cls = 5 ∧ 2 ≤ index)) ∧
          c = .write p stray))) ∨
    (command = 3 ∧ c = .commit p stray) ∨ (command = 4 ∧ c = .withdraw p stray) ∨
    (command = 5 ∧ c = .ack p stray) ∨ (command = 6 ∧ c = .restart p stray) ∨
    ((command = 0 ∨ 7 ≤ command) ∧ c = .unknownCommand p stray)

/-- At a port stands a collected exchange of any command but READ: H0, H1 and the data bytes that came, of which the
port stores the first 33 (R154, R159). FILL bytes may have come before. -/
def Collected (s : State) (p : Port) (h0 h1 : Byte) (data : List Byte) : Prop :=
  (s.port p).phase = .dataIn ∧ (s.port p).xch.bits % 8 = 0 ∧ (s.port p).xch.h0 = some h0 ∧
  (s.port p).xch.h1 = some h1 ∧ (s.port p).xch.data = data.take 33 ∧ (s.port p).xch.count = data.length

/-- At a port stands a collected READ that has taken its termination byte as data byte number `count`, with nothing
after it (R158). -/
def CollectedRead (s : State) (p : Port) (h0 h1 : Byte) (record : List Byte) (count : Nat) : Prop :=
  (s.port p).phase = .ended ∧ (s.port p).xch.bits % 8 = 0 ∧ (s.port p).xch.h0 = some h0 ∧
  (s.port p).xch.h1 = some h1 ∧ (s.port p).xch.wait = some 0xFF#8 ∧ (s.port p).xch.terminated = true ∧
  (s.port p).xch.overrun = false ∧ (s.port p).xch.count = count ∧ (s.port p).snapshot = some record

/-- A port controller at rest after an exchange that left this status bit, error count and last result (R154, R155). That
nothing of the exchange is collected any more (assumption 13), and that the port keeps its last bitmap (assumption 7), is
the model's choice. -/
def PortControl.atRest (x : PortControl) (status : Bool) (errors : Nat) (last : LastResult) : PortControl :=
  { sel := false, dout := .highZ, phase := .idle,
    xch := { bits := 0, h0 := none, h1 := none, wait := none, data := [], count := 0, terminated := false,
             overrun := false },
    snapshot := none, bitmap := x.bitmap, status := status, errors := errors, last := last }

/-- The last result of an exchange with a header and a code (R162). -/
def headerResult (h0 h1 : Byte) (code : ResultCode) (d1 d2 d3 : Nat) : LastResult :=
  { command := h0.toNat / 16, cls := h0.toNat % 16, index := h1.toNat, code := code, detail1 := d1, detail2 := d2,
    detail3 := d3 }

/-- The state with a good exchange recorded at a port: status 1, the error count as it was (R162); the port at
rest, with assumptions 7 and 13. -/
def State.withGood (s : State) (p : Port) (h0 h1 : Byte) (code : ResultCode) (d1 : Nat) : State :=
  let last := headerResult h0 h1 code d1 0 0
  { s with ports := s.ports.set p ((s.port p).atRest true (s.port p).errors last) }

/-- The state with a failed exchange recorded at a port: status 0, the error count one up, held at 255 (R162);
the port at rest, with assumptions 7 and 13. -/
def State.withBad (s : State) (p : Port) (h0 h1 : Byte) (code : ResultCode) (d1 d2 d3 : Nat) : State :=
  let last := headerResult h0 h1 code d1 d2 d3
  { s with ports := s.ports.set p ((s.port p).atRest false (min 255 ((s.port p).errors + 1)) last) }

/-- The outcome of several commands, one after the other. -/
def execAll : List Instr → State → Host.Outcome State Fault Refusal
  | [], s => .next s
  | c :: cs, s =>
    match exec c s with
    | .next t => execAll cs t
    | .fault r => .fault r
    | .refused r => .refused r

end Sys2Proof.Machine
end

