-- ==== Sys2Proof/Certificates/Slice0/Obligations.lean ====
section
/-! DEFINITION. The statements for the provers, one `def Obligations.<Name> : Prop` each: what the spec's numbered rules
say the commands and the boundary do, and the invariants that every step keeps. -/

open Sys2Proof Sys2Proof.Machine

/-! ### The queue -/

/-- A step runs the command at the front of the queue on the state with the queue's rest. On an empty queue the part
idles, which is the model's choice (assumption 1). -/
def Obligations.StepRunsFrontCommand : Prop :=
  (∀ (s : State) (c : Instr) (rest : List Instr), s.pending = c :: rest → step s = exec c { s with pending := rest }) ∧
  ∀ s : State, s.pending = [] → step s = .next s

/-- Every command has a next state in every state, and leaves the queue as it is: a failed exchange is refused with a
result code, and the part goes on (R161, R162). That a timer command away from its position (assumption 3), and a port or
reset command whose event cannot come about (assumption 4), has a next state too is the model's choice. -/
def Obligations.EveryCommandCompletes : Prop :=
  ∀ (c : Instr) (s : State), ∃ t, exec c s = .next t ∧ t.pending = s.pending

/-! ### Device reset -/

/-- DEVICE_RESET sets every block to the values that the chapters give (R6, R58, R60, R80, R81, R109, R142, R154, R177),
with RESET held. That the levels of the selects, the queue and the count of free values drawn stay is the model's choice
(assumption 5). RESET_RELEASE begins the start interval with the level of SYNC as its previous sample, and changes nothing
else (R6, R10); while RESET is not held nothing is released and nothing happens, which is the model's choice (assumption 4).
After a device reset every attention line is released while RESET is held, and at reset release it is asserted at port B
alone (R172, R177). -/
def Obligations.ResetSetsEveryBlockAndReleases : Prop :=
  (∀ s : State, ∃ t, exec .deviceReset s = .next t ∧ t.resetHeld = true ∧
    (t.timer.counter = 0 ∧ t.timer.phase = .start ∧ t.timer.mode = .free ∧ t.timer.p = 20 ∧ t.timer.q = 10 ∧
      t.timer.delta = none ∧ t.timer.index = 0 ∧ t.timer.runCount = 0 ∧ t.timer.restartReq = false) ∧
    (t.plan.e = { staged := { rampRate := 0, rounding := 0, curve := [] }, live := none, pending := false } ∧
      t.plan.t.staged = { rampRate := 0, axleRatio := 0, radius := 0, shiftMax := 0, rounding := 0, curve := [] } ∧
      t.plan.b.staged = PlanB.zero ∧ t.plan.c.staged = PlanC.zero ∧ t.plan.t.live = none ∧ t.plan.b.live = none ∧
      t.plan.c.live = none ∧ t.plan.t.pending = false ∧ t.plan.b.pending = false ∧ t.plan.c.pending = false ∧
      t.plan.stepE = none ∧ t.plan.stepT = none) ∧
    (t.reports.exhaust = { state := .absent, age := 0, mark := false, fields := ExhaustFields.zero } ∧
      t.reports.trans = { state := .absent, age := 0, mark := false, fields := TransFields.zero } ∧
      t.reports.axles = { state := .absent, age := 0, mark := false, fields := AxlesFields.zero } ∧
      t.reports.vehicle = { written := false, mass := 0, ambient := 0 }) ∧
    t.demand = { pedal := none, stalk := none, hold := none, holdEnabled := false, setSpeed := 800, integrator := 0 } ∧
    ((∀ i, t.heat.accounts.get i = { temp := 150 * 65536, state := .cool, seeded := false, sat := false }) ∧
      t.heat.lastSpeed = 0) ∧
    t.cap = { shift := .idle, shiftElapsed := 0, armed := true, stale := false, slip := .off, holdElapsed := 0 } ∧
    (t.app.pendingSet = none ∧ t.app.published = GrantSet.zero .unplanned 0 ∧ t.app.prevE = 0 ∧ t.app.prevR = 0 ∧
      t.app.runCount = 0 ∧ t.app.runPosted = false ∧ t.app.engine = .unplanned) ∧
    (∀ p, (t.port p).phase = .idle ∧ (t.port p).dout = .highZ ∧ (t.port p).xch = Exchange.empty ∧
      (t.port p).snapshot = none ∧ (t.port p).status = true ∧ (t.port p).errors = 0 ∧
      (t.port p).last = { command := 0, cls := 0, index := 0, code := .none, detail1 := 0, detail2 := 0, detail3 := 0 } ∧
      (t.port p).sel = (s.port p).sel) ∧
    (∀ p k, (t.events.get p).counts.get k = if p = .b ∧ k = .seedWanted then 1 else 0) ∧
    (∀ p, (t.events.get p).mask = 0xBFFF#16) ∧ t.pending = s.pending ∧ t.tieDraws = s.tieDraws) ∧
  (∀ (s : State) (sync : Bool), s.resetHeld = true →
    exec (.resetRelease sync) s =
      .next { s with resetHeld := false, timer := { s.timer with syncPrev := sync, syncEdge := false } }) ∧
  (∀ (s : State) (sync : Bool), s.resetHeld = false → exec (.resetRelease sync) s = .next s) ∧
  ∀ (s t u : State) (sync : Bool), exec .deviceReset s = .next t → exec (.resetRelease sync) t = .next u →
    ∀ p, t.attention p = false ∧ u.attention p = decide (p = .b)

/-! ### The timer's positions -/

/-- The positions of a period (R2). Each boundary that the timer makes of itself, at its position: the end of the start
interval at 200 ticks (R6), the free boundary at P x 10 (R7), and the boundary that a RESTART has requested, at 20 ticks
(R17); each stamps its elapsed time, and what a boundary does is said by the statements about `makeBoundary`. And
GUARD_END: when the counter reaches 20 with no boundary requested, the period moves from GUARD to OPEN, and nothing else
changes. -/
def Obligations.TimerTakesItsPositions : Prop :=
  (∀ s : State, s.resetHeld = false → s.timer.phase = .start → s.timer.restartReq = false → s.timer.counter = 200 →
    exec .startIntervalEnd s = .next (makeBoundary s) ∧ (makeBoundary s).timer.delta = some 200) ∧
  (∀ s : State, s.resetHeld = false → s.timer.phase = .closed → s.timer.mode = .free →
    s.timer.counter = s.timer.p * 10 →
    exec .freeBoundary s = .next (makeBoundary s) ∧ (makeBoundary s).timer.delta = some (s.timer.p * 10)) ∧
  (∀ s : State, s.resetHeld = false → (s.timer.phase = .start ∨ s.timer.phase = .guarding) →
    s.timer.restartReq = true → s.timer.counter = 20 →
    exec .restartRequestBoundary s = .next (makeBoundary s) ∧ (makeBoundary s).timer.delta = some 20) ∧
  ∀ s : State, s.resetHeld = false → s.timer.phase = .guarding → s.timer.restartReq = false → s.timer.counter = 20 →
    exec .guardEnd s = .next { s with timer := { s.timer with phase := .openPhase } }

/-- SELF_BOUNDARY: at the SYNC deadline, P x 10 and a quarter of it rounded down, the run count rises by one, held at 3,
SYNC_LOST goes to ports B and C as it becomes 3, and a boundary is made with the deadline as elapsed time (R14, R15). -/
def Obligations.SelfBoundaryCountsTheRun : Prop :=
  ∀ s : State, s.resetHeld = false → s.timer.phase = .closed → s.timer.mode = .synced →
    s.timer.counter = s.timer.p * 10 + s.timer.p * 10 / 4 →
    ∃ u, exec .selfBoundary s = .next (makeBoundary u) ∧
      (makeBoundary u).timer.delta = some (s.timer.p * 10 + s.timer.p * 10 / 4) ∧
      (∃ ev, u = { s with timer := { s.timer with runCount := min 3 (s.timer.runCount + 1) }, events := ev }) ∧
      (∀ p, (u.events.get p).mask = (s.events.get p).mask) ∧
      ∀ p k, (u.events.get p).counts.get k =
        if s.timer.runCount = 2 ∧ (p = .b ∨ p = .c) ∧ k = .syncLost then min 255 ((s.events.get p).counts.get k + 1)
        else (s.events.get p).counts.get k

/-- PUBLISH_POINT: at Q x 10 ticks in OPEN the index rises by one modulo 65536 and the phase becomes CLOSED (R9); the
pending set is stamped with the index and with VALID, becomes the published set as a whole, and its endurance grants
become the previous grants; PUBLISHED goes to every port (R102); the shortfall run is updated, and SHORTFALL goes to
every port when the run-posted mark goes from clear to set (R97). Nothing else changes. -/
def Obligations.PublishPointPublishes : Prop :=
  ∀ (s : State) (g : GrantSet), s.resetHeld = false → s.timer.phase = .openPhase →
    s.timer.counter = s.timer.q * 10 → s.app.pendingSet = some g →
    ∃ t, exec .publishPoint s = .next t ∧
      (∃ app ev, t = { s with
        timer := { s.timer with index := (s.timer.index + 1) % 65536, phase := .closed }, app := app,
        events := ev }) ∧
      t.app.published =
        { g with periodIndex := (s.timer.index + 1) % 65536, valid := decide (g.summary.state ≠ .unplanned) } ∧
      t.app.pendingSet = none ∧ t.app.prevE = g.exhaust.grantN ∧ t.app.prevR = g.retarder.grantN ∧
      t.app.engine = s.app.engine ∧
      (∀ c, s.plan.c.live = some c →
        (c.shortThreshold < g.summary.shortfall →
          t.app.runCount = min 50 (s.app.runCount + 1) ∧
          t.app.runPosted = (s.app.runPosted || decide (c.shortCount ≤ t.app.runCount))) ∧
        (g.summary.shortfall ≤ c.shortThreshold → t.app.runCount = 0 ∧ t.app.runPosted = false)) ∧
      (g.summary.shortfall = 0 → t.app.runCount = 0 ∧ t.app.runPosted = false) ∧
      (∀ p, (t.events.get p).mask = (s.events.get p).mask) ∧
      ∀ p k, (t.events.get p).counts.get k =
        if k = .published ∨ (k = .shortfall ∧ t.app.runPosted = true ∧ s.app.runPosted = false)
        then min 255 ((s.events.get p).counts.get k + 1) else (s.events.get p).counts.get k

/-- SYNC_EDGE, by the mode and phase in which the edge is taken (R10 to R13): ignored in FREE mode and in GUARD; in OPEN,
SYNC_EARLY to port B, the run count 0 and a boundary; in CLOSED, the run count 0 and a boundary. -/
def Obligations.SyncEdgeActsByPhase : Prop :=
  ∀ s : State, s.resetHeld = false → s.timer.syncEdge = true →
    ((s.timer.mode = .free ∨ s.timer.phase = .guarding) →
      exec .syncEdge s = .next { s with timer := { s.timer with syncEdge := false } }) ∧
    (s.timer.mode = .synced → s.timer.phase = .openPhase →
      ∃ u ev, exec .syncEdge s = .next (makeBoundary u) ∧
        u = { s with timer := { s.timer with syncEdge := false, runCount := 0 }, events := ev } ∧
        (∀ p, (ev.get p).mask = (s.events.get p).mask) ∧
        ∀ p k, (ev.get p).counts.get k =
          if p = .b ∧ k = .syncEarly then min 255 ((s.events.get p).counts.get k + 1)
          else (s.events.get p).counts.get k) ∧
    (s.timer.mode = .synced → s.timer.phase = .closed →
      exec .syncEdge s =
        .next (makeBoundary { s with timer := { s.timer with syncEdge := false, runCount := 0 } }))

/-- TICK: the counter rises by one, and SYNC is sampled, a high sample after a low one being a rising edge (R1, R10),
where every event of the tick before has been taken; while RESET is held nothing changes (R6). With an event left untaken
TICK does what it does once that event has been taken by its own command, which is the model's choice (assumption 3): the
position that is due, or the edge; in FREE mode the edge first, which R7 ignores; and in SYNCED mode with both, either the
edge or the position first, as the free value says, one draw counted (R12, R13, assumption 2): the clause holds for either
draw. -/
def Obligations.TickAdvancesTheCounter : Prop :=
  (∀ (s : State) (sync : Bool), s.resetHeld = false → s.timer.due = none → s.timer.syncEdge = false →
    exec (.tick sync) s =
      .next { s with timer := { s.timer with
        counter := s.timer.counter + 1, syncPrev := sync, syncEdge := sync && !s.timer.syncPrev } }) ∧
  (∀ (s : State) (sync : Bool), s.resetHeld = true → exec (.tick sync) s = .next s) ∧
  (∀ (s : State) (sync : Bool), s.resetHeld = false → s.timer.due = none → s.timer.syncEdge = true →
    ∃ u, exec .syncEdge s = .next u ∧ exec (.tick sync) s = exec (.tick sync) u) ∧
  ∀ (s : State) (sync : Bool) (x : Position), s.resetHeld = false → TimerInRange s.timer → s.timer.due = some x →
    let drawn : State := { s with tieDraws := s.tieDraws + 1 }
    (s.timer.syncEdge = false → ∃ u, exec (positionCommand x) s = .next u ∧ exec (.tick sync) s = exec (.tick sync) u) ∧
    (s.timer.syncEdge = true → s.timer.mode = .free →
      ∃ u, exec .syncEdge s = .next u ∧ exec (.tick sync) s = exec (.tick sync) u) ∧
    (s.timer.syncEdge = true → s.timer.mode = .synced → Config.syncEdgeFirst s.tieDraws = true →
      ∃ u, exec .syncEdge drawn = .next u ∧ exec (.tick sync) s = exec (.tick sync) u) ∧
    (s.timer.syncEdge = true → s.timer.mode = .synced → Config.syncEdgeFirst s.tieDraws = false →
      ∃ u, exec (positionCommand x) drawn = .next u ∧ exec (.tick sync) s = exec (.tick sync) u)

/-! ### The boundary -/

/-- At a boundary, whatever its cause, the timer stamps the counter as the elapsed time, sets the counter to 0, enters
GUARD and clears the restart request (R5); P, Q and the mode are those of section C as it is live after the boundary's
copies, and stay as they are while it is not live (R3); in FREE mode the run count becomes 0 (R4). -/
def Obligations.BoundaryStampsTheTimer : Prop :=
  ∀ s : State,
    (makeBoundary s).timer =
      match (makeBoundary s).plan.c.live with
      | none =>
        { s.timer with delta := some s.timer.counter, counter := 0, phase := .guarding, restartReq := false }
      | some c =>
        { s.timer with
          delta := some s.timer.counter, counter := 0, phase := .guarding, restartReq := false, p := c.p, q := c.q,
          mode := if c.syncMode = 0 then .free else .synced,
          runCount := if c.syncMode = 0 then 0 else s.timer.runCount }

/-- At a boundary every section whose commit-pending mark is set becomes live whole and its mark is cleared; a section
not pending is left as it is; each section copied posts PLAN_APPLIED once to every port (R137). -/
def Obligations.BoundaryCopiesPendingSections : Prop :=
  ∀ s : State,
    (makeBoundary s).plan.e =
      { staged := s.plan.e.staged, live := if s.plan.e.pending then some s.plan.e.staged else s.plan.e.live,
        pending := false } ∧
    (makeBoundary s).plan.t =
      { staged := s.plan.t.staged, live := if s.plan.t.pending then some s.plan.t.staged else s.plan.t.live,
        pending := false } ∧
    (makeBoundary s).plan.b =
      { staged := s.plan.b.staged, live := if s.plan.b.pending then some s.plan.b.staged else s.plan.b.live,
        pending := false } ∧
    (makeBoundary s).plan.c =
      { staged := s.plan.c.staged, live := if s.plan.c.pending then some s.plan.c.staged else s.plan.c.live,
        pending := false } ∧
    (CountsInRange s → ∀ p, ((makeBoundary s).events.get p).counts.get .planApplied =
      raisedBy ((s.events.get p).counts.get .planApplied)
        (s.plan.e.pending.toNat + s.plan.t.pending.toNat + s.plan.b.pending.toNat + s.plan.c.pending.toNat))

/-- The ramp steps (R138): at a boundary that copies section E or T the step becomes RAMP_RATE x P / 1000 toward zero,
with the P that holds from this boundary; a boundary that does not copy the section keeps the step, whatever section C
does; within the ranges of the plan the step lies within 10 and 20,000; RESTART keeps it, where nothing is pending, and
device reset removes it. -/
def Obligations.RampStepFollowsItsSection : Prop :=
  (∀ s : State,
    (makeBoundary s).plan.stepE =
      (if s.plan.e.pending then
        some (s.plan.e.staged.rampRate *
          (match (makeBoundary s).plan.c.live with | some c => c.p | none => 20) / 1000)
      else s.plan.stepE) ∧
    (makeBoundary s).plan.stepT =
      (if s.plan.t.pending then
        some (s.plan.t.staged.rampRate *
          (match (makeBoundary s).plan.c.live with | some c => c.p | none => 20) / 1000)
      else s.plan.stepT)) ∧
  (∀ rate p : Nat, 1000 ≤ rate → rate ≤ 400000 → 10 ≤ p → p ≤ 50 →
    10 ≤ rampStep rate p ∧ rampStep rate p ≤ 20000) ∧
  (∀ s t : State, Collected s .c 0x60#8 0#8 [] → exec (.restart .c 0) s = .next t →
    (s.plan.e.pending = false → t.plan.stepE = s.plan.stepE) ∧
    (s.plan.t.pending = false → t.plan.stepT = s.plan.stepT)) ∧
  ∀ s t : State, exec .deviceReset s = .next t → t.plan.stepE = none ∧ t.plan.stepT = none

/-- The engine state of a boundary: UNPLANNED while a section is not live after the boundary's copies; otherwise RUNNING
with a FRESH or AGING AXLES after the boundary's ageing, and FALLBACK with an ABSENT or EXPIRED one (R144). STATE_CHANGE
goes to every port when the state changes, and at no other boundary (R145). -/
def Obligations.BoundaryDecidesEngineState : Prop :=
  ∀ s : State,
    let t := makeBoundary s
    let allLive := t.plan.e.live.isSome && t.plan.t.live.isSome && t.plan.b.live.isSome && t.plan.c.live.isSome
    (allLive = false → t.app.engine = .unplanned) ∧
    (allLive = true → InUse t.latched.axles.state → t.app.engine = .running) ∧
    (allLive = true → ¬InUse t.latched.axles.state → t.app.engine = .fallback) ∧
    ∀ p, (t.events.get p).counts.get .stateChange =
      if t.app.engine = s.app.engine then (s.events.get p).counts.get .stateChange
      else min 255 ((s.events.get p).counts.get .stateChange + 1)

/-- At a boundary EXHAUST, TRANS and AXLES are aged with the ages of the live section C, or 3 and 10 (R42, R63), VEHICLE
stays, and the latched copy is what the ageing left (R62); PEDAL and STALK are aged alike (R41). -/
def Obligations.BoundaryAgesReportsAndDemand : Prop :=
  ∀ s : State,
    let t := makeBoundary s
    let ages := agesOf t.plan.c.live
    s.reports.exhaust.AgedTo ExhaustFields.zero ages.1 ages.2 t.reports.exhaust ∧
    s.reports.trans.AgedTo TransFields.zero ages.1 ages.2 t.reports.trans ∧
    s.reports.axles.AgedTo AxlesFields.zero ages.1 ages.2 t.reports.axles ∧
    t.reports.vehicle = s.reports.vehicle ∧ t.latched = t.reports ∧
    EntryAgedTo ages.1 ages.2 s.demand.pedal t.demand.pedal ∧
    EntryAgedTo ages.1 ages.2 s.demand.stalk t.demand.stalk

/-- What ageing posts at a boundary (R41, R63): EXPIRED to the writer and to port C, once at C where C is the writer;
REFRESH to the writer, once for a write. -/
def Obligations.AgeingPostsRefreshAndExpired : Prop :=
  ∀ s : State, CountsInRange s →
    let t := makeBoundary s
    let ages := agesOf t.plan.c.live
    let e := s.reports.exhaust
    let r := s.reports.trans
    let a := s.reports.axles
    let pedal := s.demand.pedal
    let stalk := s.demand.stalk
    let count := fun (x : State) p k => (x.events.get p).counts.get k
    count t .e .expired = raisedBy (count s .e .expired) (e.expires ages.2).toNat ∧
    count t .t .expired = raisedBy (count s .t .expired) (r.expires ages.2).toNat ∧
    count t .b .expired =
      raisedBy (count s .b .expired) ((a.expires ages.2).toNat + (entryExpires ages.2 pedal).toNat) ∧
    count t .c .expired =
      raisedBy (count s .c .expired)
        ((e.expires ages.2).toNat + (r.expires ages.2).toNat + (a.expires ages.2).toNat +
          (entryExpires ages.2 pedal).toNat + (entryExpires ages.2 stalk).toNat) ∧
    count t .e .refresh = raisedBy (count s .e .refresh) (e.refreshes ages.1 ages.2).toNat ∧
    count t .t .refresh = raisedBy (count s .t .refresh) (r.refreshes ages.1 ages.2).toNat ∧
    count t .b .refresh =
      raisedBy (count s .b .refresh)
        ((a.refreshes ages.1 ages.2).toNat + (entryRefreshes ages.1 ages.2 pedal).toNat) ∧
    count t .c .refresh = raisedBy (count s .c .refresh) (entryRefreshes ages.1 ages.2 stalk).toNat

/-- The speed-hold loop at a boundary. Disabled, or in UNPLANNED: HOLD EMPTY, the integrator 0, the setting kept (R46).
In FALLBACK: the setting disabled too, with HOLD_DROPPED to port C (R57). In RUNNING: with e the latched speed less
SET_SPEED, the integrator takes Ki x e x elapsed x 1024 / 10,000 toward zero, unless the published SHORTFALL is above 0
(R48, R49), and is held within 0 and HOLD_MAX x 1024 (R50); HOLD is Kp x e plus the integrator's whole part, held within 0
and HOLD_MAX (R51). SET_SPEED stays. -/
def Obligations.BoundaryRunsSpeedHold : Prop :=
  ∀ s : State,
    let t := makeBoundary s
    t.demand.setSpeed = s.demand.setSpeed ∧
    ((s.demand.holdEnabled = false ∨ t.app.engine = .unplanned) →
      t.demand.hold = none ∧ t.demand.integrator = 0 ∧ t.demand.holdEnabled = s.demand.holdEnabled) ∧
    (s.demand.holdEnabled = true → t.app.engine = .fallback →
      t.demand.hold = none ∧ t.demand.integrator = 0 ∧ t.demand.holdEnabled = false) ∧
    (s.demand.holdEnabled = true → t.app.engine = .running →
      t.demand.holdEnabled = true ∧
      ∃ c, t.plan.c.live = some c ∧
        let e : Int := (t.latched.axles.fields.speed : Int) - (s.demand.setSpeed : Int)
        let moved : Int :=
          if 0 < s.app.published.summary.shortfall then (s.demand.integrator : Int)
          else s.demand.integrator + Int.tdiv ((c.ki : Int) * e * s.timer.counter * 1024) 10000
        (t.demand.integrator : Int) = max 0 (min ((c.holdMax : Int) * 1024) moved) ∧
        ∃ h, t.demand.hold = some h ∧
          (h : Int) = max 0 (min (c.holdMax : Int) ((c.kp : Int) * e + (t.demand.integrator : Int) / 1024))) ∧
    ∀ p, (t.events.get p).counts.get .holdDropped =
      if p = .c ∧ s.demand.holdEnabled = true ∧ t.app.engine = .fallback then
        min 255 ((s.events.get p).counts.get .holdDropped + 1)
      else (s.events.get p).counts.get .holdDropped

/-- The heat accounts at a boundary. The last valid speed is the latched one where AXLES is FRESH or AGING (R112). With
section B not live the accounts stay (R110). With it live, each takes its force, which is ACHIEVED_KPA x GAIN where that
is present and within F_MAX and the published grant otherwise (R111), the speed (R112), the rise rounded up (R113) and
the cooling rounded down with its floor at ambient (R114), and the ceiling with the saturation mark (R115); it is then
graded from the new temperature. SEEDED stays. -/
def Obligations.BoundaryStepsHeatAccounts : Prop :=
  ∀ s : State,
    let t := makeBoundary s
    (InUse t.latched.axles.state → t.heat.lastSpeed = t.latched.axles.fields.speed) ∧
    (¬InUse t.latched.axles.state → t.heat.lastSpeed = s.heat.lastSpeed) ∧
    (t.plan.b.live = none → t.heat.accounts = s.heat.accounts) ∧
    ∀ (b : PlanB) (i : Axle), t.plan.b.live = some b → 0 < (b.axles.get i).cTh →
      let old := s.heat.accounts.get i
      let new := t.heat.accounts.get i
      ∃ force speed : Nat,
        (∀ kpa, InUse t.latched.axles.state → (t.latched.axles.fields.axle.get i).achieved = some kpa →
          kpa * (b.axles.get i).gain ≤ 400000 → force = kpa * (b.axles.get i).gain) ∧
        ((¬InUse t.latched.axles.state ∨ (t.latched.axles.fields.axle.get i).achieved = none ∨
            ∃ kpa, (t.latched.axles.fields.axle.get i).achieved = some kpa ∧
              400000 < kpa * (b.axles.get i).gain) →
          force = (s.app.published.service.get i).grantN) ∧
        (InUse t.latched.axles.state → speed = t.latched.axles.fields.speed) ∧
        (∀ c, ¬InUse t.latched.axles.state → t.plan.c.live = some c →
          speed = max s.heat.lastSpeed c.fallbackSpeed) ∧
        (¬InUse t.latched.axles.state → t.plan.c.live = none → speed = s.heat.lastSpeed) ∧
        let ambient : Int := (if t.latched.vehicle.written then t.latched.vehicle.ambient else 25) * 65536
        let energy : Int := (force * speed * s.timer.counter * 65536 : Nat)
        let rise : Int := -(-energy / ((36 * 10000 * (b.axles.get i).cTh : Nat) : Int))
        let cooling : Int :=
          if ambient < old.temp then (old.temp - ambient) * (b.axles.get i).lambda * s.timer.counter / 100000000
          else 0
        let raw : Int :=
          if ambient < old.temp then max ambient (old.temp + rise - cooling) else old.temp + rise
        new.temp = min raw (900 * 65536) ∧
        (900 * 65536 < raw → new.sat = true) ∧ (raw < 900 * 65536 → new.sat = false) ∧
        (raw = 900 * 65536 → new.sat = old.sat) ∧
        new.seeded = old.seeded ∧ new.state = gradedState b new.temp old.state

/-- Grading: where a threshold above the state has been reached, the state becomes the highest such one (R116);
otherwise it falls one grade at a time while the temperature is below the threshold of the grade it leaves less HYST, and
stops at the first grade for which that test fails, or at COOL (R117). Each account that changes its state at a boundary
posts HEAT_STATE once to every port (R118), and each that is clamped with its mark clear posts HEAT_SAT once to ports B
and C (R115). -/
def Obligations.HeatGradesWithHysteresis : Prop :=
  (∀ (b : PlanB) (temp : Int) (state : HeatState), b.warmOn < b.hotOn → b.hotOn < b.fadeOn →
    let on : HeatState → Int := fun g =>
      (match g with | .cool => 0 | .warm => (b.warmOn : Int) | .hot => b.hotOn | .fade => b.fadeOn) * 65536
    let after := gradedState b temp state
    (∀ g, g ≠ .cool → on g ≤ temp → heatRank g ≤ heatRank after) ∧
    (heatRank state < heatRank after → on after ≤ temp) ∧
    (∀ g, heatRank after < heatRank g → heatRank g ≤ heatRank state → temp < on g - (b.hyst : Int) * 65536) ∧
    (after ≠ .cool → heatRank after ≤ heatRank state → on after - (b.hyst : Int) * 65536 ≤ temp)) ∧
  ∀ s : State, CountsInRange s →
    let t := makeBoundary s
    let changed := fun i => (decide ((t.heat.accounts.get i).state ≠ (s.heat.accounts.get i).state)).toNat
    let clamped := fun i => ((t.heat.accounts.get i).sat && !(s.heat.accounts.get i).sat).toNat
    ∀ p, (t.events.get p).counts.get .heatState =
        raisedBy ((s.events.get p).counts.get .heatState) (changed .front + changed .drive + changed .tag) ∧
      (t.events.get p).counts.get .heatSat =
        if p = .b ∨ p = .c then
          raisedBy ((s.events.get p).counts.get .heatSat) (clamped .front + clamped .drive + clamped .tag)
        else (s.events.get p).counts.get .heatSat

/-! ### The evaluator and the apportioner at a boundary -/

/-- Shift gap, stale mark and slip cut at a boundary in RUNNING or FALLBACK, case by case (R70 to R74), with SHIFT_LONG to
ports E and T at a long end (R71) and SLIP_CUT to ports E, T and C where a cut begins from OFF (R73). A boundary in
UNPLANNED leaves the evaluator's state (R66). -/
def Obligations.BoundaryUpdatesShiftAndSlip : Prop :=
  (∀ s : State, (makeBoundary s).app.engine = .unplanned → (makeBoundary s).cap = s.cap) ∧
  ∀ (s : State) (pt : PlanT) (pb : PlanB),
    let t := makeBoundary s
    let shifting := InUse t.latched.trans.state ∧ t.latched.trans.fields.shifting = true
    let slipping := InUse t.latched.axles.state ∧ t.latched.axles.fields.axle.drive.slip = true
    let long := s.cap.shift = .gap ∧ shifting ∧ pt.shiftMax * 10 ≤ s.cap.shiftElapsed + s.timer.counter
    let rewritten := InUse t.latched.exhaust.state ∧ t.latched.exhaust.age = 1
    t.app.engine ≠ .unplanned → t.plan.t.live = some pt → t.plan.b.live = some pb →
    (s.cap.shift = .idle → ¬shifting → t.cap.shift = .idle ∧ t.cap.armed = true) ∧
    (s.cap.shift = .idle → shifting → s.cap.armed = true →
      t.cap.shift = .gap ∧ t.cap.shiftElapsed = 0 ∧ t.cap.armed = false) ∧
    (s.cap.shift = .idle → shifting → s.cap.armed = false → t.cap.shift = .idle ∧ t.cap.armed = false) ∧
    (s.cap.shift = .gap → ¬shifting → t.cap.shift = .idle ∧ t.cap.armed = true) ∧
    (long → t.cap.shift = .idle ∧ t.cap.armed = s.cap.armed ∧ t.cap.stale = true) ∧
    (s.cap.shift = .gap → shifting → ¬long →
      t.cap.shift = .gap ∧ t.cap.shiftElapsed = s.cap.shiftElapsed + s.timer.counter ∧
      t.cap.armed = s.cap.armed) ∧
    (¬long → (t.cap.stale = true ↔ s.cap.stale = true ∧ ¬rewritten)) ∧
    (s.cap.slip = .off → (slipping → t.cap.slip = .cut) ∧ (¬slipping → t.cap.slip = .off)) ∧
    (s.cap.slip = .cut → slipping → t.cap.slip = .cut) ∧
    (s.cap.slip = .cut → ¬slipping →
      t.cap.holdElapsed = 0 ∧ t.cap.slip = if pb.slipHold * 10 ≤ 0 then .off else .hold) ∧
    (s.cap.slip = .hold → slipping → t.cap.slip = .cut ∧ t.cap.holdElapsed = 0) ∧
    (s.cap.slip = .hold → ¬slipping →
      t.cap.holdElapsed = s.cap.holdElapsed + s.timer.counter ∧
      t.cap.slip = if pb.slipHold * 10 ≤ s.cap.holdElapsed + s.timer.counter then .off else .hold) ∧
    ∀ p,
      ((p = .e ∨ p = .t) → long → (t.events.get p).counts.get .shiftLong =
        min 255 ((s.events.get p).counts.get .shiftLong + 1)) ∧
      (¬((p = .e ∨ p = .t) ∧ long) →
        (t.events.get p).counts.get .shiftLong = (s.events.get p).counts.get .shiftLong) ∧
      (p ≠ .b → s.cap.slip = .off → slipping → (t.events.get p).counts.get .slipCut =
        min 255 ((s.events.get p).counts.get .slipCut + 1)) ∧
      (¬(p ≠ .b ∧ s.cap.slip = .off ∧ slipping) →
        (t.events.get p).counts.get .slipCut = (s.events.get p).counts.get .slipCut)

/-- The capacities of the set that a boundary begins, in RUNNING and FALLBACK. Exhaust: 0 with EXHAUST not usable, in a
shift gap, with the stale mark or in a slip cut; otherwise the curve torque as a force with the latched gear ratio, with
the availability derate and then the soft-age derate, 0 for NOVALUE (R67). Retarder alike from TRANS, the shift gap apart
(R68). Each axle: PMAX_KPA x GAIN, 0 above F_MAX, with the fade derate and then the soft-age derate (R78). With them the
marks of each record's flags: SLIP_CUT in CUT and HOLD, SHIFT_GAP in a gap or with the stale mark, AGING and EXPIRED from the
record's own report, NOVALUE from its lanes (R79, R100). And NOVALUE is posted at a boundary once for each lane above F_MAX,
to the owner of its report and to port C: the endurance lanes and the capacity products where all four sections are live,
the service achieved forces wherever section B is (R25, R66, R69). -/
def Obligations.BoundaryWorksOutCapacities : Prop :=
  (∀ (s : State) (pe : PlanE) (pt : PlanT) (pb : PlanB) (pc : PlanC) (g : GrantSet),
    let t := makeBoundary s
    let r := t.latched
    let half := fun (x : ReportState) (f : Nat) => if x = .aging then f / 2 else f
    t.plan.e.live = some pe → t.plan.t.live = some pt → t.plan.b.live = some pb → t.plan.c.live = some pc →
    t.app.pendingSet = some g →
    ((¬InUse r.exhaust.state ∨ t.cap.shift = .gap ∨ t.cap.stale = true ∨ t.cap.slip ≠ .off) →
      g.exhaust.capacity = 0) ∧
    (InUse r.exhaust.state → t.cap.shift = .idle → t.cap.stale = false → t.cap.slip = .off →
      ∃ gear : Nat, (InUse r.trans.state → gear = r.trans.fields.gear) ∧ (¬InUse r.trans.state → gear = 0) ∧
        let mode := roundingOfCode pe.rounding
        let torque := curveAt mode (r.exhaust.fields.rpm : Int) pe.curve
        (exhaustForce mode torque gear pt.axleRatio pt.radius = .novalue → g.exhaust.capacity = 0) ∧
        ∀ f, exhaustForce mode torque gear pt.axleRatio pt.radius = .newtons f →
          g.exhaust.capacity = half r.exhaust.state (f * r.exhaust.fields.avail / 100)) ∧
    ((¬InUse r.trans.state ∨ t.cap.slip ≠ .off) → g.retarder.capacity = 0) ∧
    (InUse r.trans.state → t.cap.slip = .off →
      let mode := roundingOfCode pt.rounding
      let torque := curveAt mode (r.trans.fields.rpm : Int) pt.curve
      (retarderForce mode torque pt.axleRatio pt.radius = .novalue → g.retarder.capacity = 0) ∧
      ∀ f, retarderForce mode torque pt.axleRatio pt.radius = .newtons f →
        g.retarder.capacity = half r.trans.state (f * r.trans.fields.avail / 100)) ∧
    ∀ i,
      (¬InUse r.axles.state → (g.service.get i).capacity = 0) ∧
      (InUse r.axles.state →
        let force := (r.axles.fields.axle.get i).pmax * (pb.axles.get i).gain
        let fade := (curveAt (roundingOfCode pb.rounding) ((t.heat.accounts.get i).temp / 65536) pb.fade).toNat
        (400000 < force → (g.service.get i).capacity = 0) ∧
        (force ≤ 400000 → (g.service.get i).capacity = half r.axles.state (force * fade / 100)))) ∧
  (∀ (s : State) (pe : PlanE) (pt : PlanT) (pb : PlanB) (pc : PlanC) (g : GrantSet),
    let t := makeBoundary s
    let r := t.latched
    let e := g.exhaust.flags
    let x := g.retarder.flags
    t.plan.e.live = some pe → t.plan.t.live = some pt → t.plan.b.live = some pb → t.plan.c.live = some pc →
    t.app.pendingSet = some g →
    (e.slipCut = true ↔ t.cap.slip ≠ .off) ∧ (e.shiftGap = true ↔ t.cap.shift = .gap ∨ t.cap.stale = true) ∧
    (e.aging = true ↔ r.exhaust.state = .aging) ∧ (e.expired = true ↔ ¬InUse r.exhaust.state) ∧
    e.novalue = (exhaustOver pe pt r (exhaustCurve pe r) || exhaustOver pe pt r r.exhaust.fields.achieved) ∧
    e.frozen = false ∧
    (x.slipCut = true ↔ t.cap.slip ≠ .off) ∧ x.shiftGap = false ∧
    (x.aging = true ↔ r.trans.state = .aging) ∧ (x.expired = true ↔ ¬InUse r.trans.state) ∧
    x.novalue = (retarderOver pt r (retarderCurve pt r) || retarderOver pt r r.trans.fields.achieved) ∧
    x.frozen = false ∧
    ∀ i,
      let f := (g.service.get i).flags
      f.ramped = false ∧ f.slipCut = false ∧ f.shiftGap = false ∧ (f.aging = true ↔ r.axles.state = .aging) ∧
      (f.expired = true ↔ ¬InUse r.axles.state) ∧ f.novalue = axleOver pb r i (some (r.axles.fields.axle.get i).pmax)) ∧
  ∀ s : State, CountsInRange s →
    let t := makeBoundary s
    let r := t.latched
    let count := fun (x : State) p => (x.events.get p).counts.get .novalue
    let achieved := fun pb i => (axleOver pb r i (r.axles.fields.axle.get i).achieved).toNat
    let product := fun pb i => (axleOver pb r i (some (r.axles.fields.axle.get i).pmax)).toNat
    (t.plan.b.live = none → ∀ p, count t p = count s p) ∧
    (∀ pb, t.plan.b.live = some pb → (t.plan.e.live = none ∨ t.plan.t.live = none ∨ t.plan.c.live = none) →
      ∀ p, count t p =
        if p = .b ∨ p = .c then raisedBy (count s p) (achieved pb .front + achieved pb .drive + achieved pb .tag)
        else count s p) ∧
    ∀ pe pt pb, t.plan.e.live = some pe → t.plan.t.live = some pt → t.plan.b.live = some pb →
      t.plan.c.live.isSome = true →
      let e := (exhaustOver pe pt r (exhaustCurve pe r)).toNat + (exhaustOver pe pt r r.exhaust.fields.achieved).toNat
      let x := (retarderOver pt r (retarderCurve pt r)).toNat + (retarderOver pt r r.trans.fields.achieved).toNat
      let b := achieved pb .front + achieved pb .drive + achieved pb .tag +
        (product pb .front + product pb .drive + product pb .tag)
      count t .e = raisedBy (count s .e) e ∧ count t .t = raisedBy (count s .t) x ∧
      count t .b = raisedBy (count s .b) b ∧ count t .c = raisedBy (count s .c) (e + x + b)

/-- The set that a boundary begins. With a section not live: every value 0, every flag clear, STATE UNPLANNED (R103). With
all four live: D and D_svc from the table, the mass and section C (R53, R55), E_CAP (R77), the endurance grants one after
the other in the order that ORDER names, with their RAMPED and CAPPED flags (R84, R85, R88), the expected forces (R89), the
service remainder (R90), the shortfall (R96) and the unit grants (R98). -/
def Obligations.BoundaryComputesTheGrants : Prop :=
  (∀ s : State,
    let t := makeBoundary s
    (t.plan.e.live = none ∨ t.plan.t.live = none ∨ t.plan.b.live = none ∨ t.plan.c.live = none) →
    t.app.pendingSet = some (GrantSet.zero .unplanned 0)) ∧
  ∀ (s : State) (pe : PlanE) (pt : PlanT) (pb : PlanB) (pc : PlanC),
    let t := makeBoundary s
    let r := t.latched
    t.plan.e.live = some pe → t.plan.t.live = some pt → t.plan.b.live = some pb → t.plan.c.live = some pc →
    ∃ g, t.app.pendingSet = some g ∧
      let mass := if r.vehicle.written then r.vehicle.mass else pc.nominalMass
      let value := fun (x : Option DemandEntry) => match x with | none => 0 | some entry => entry.value
      let any := max (value t.demand.pedal) (t.demand.hold.getD 0)
      let total := max any (stageDeceleration pc.stalk (value t.demand.stalk))
      let d := g.summary.d
      let eCap := g.summary.eCap
      let ge := g.exhaust.grantN
      let gr := g.retarder.grantN
      let ce := g.exhaust.capacity
      let cr := g.retarder.capacity
      let stepE := t.plan.stepE.getD 0
      let stepR := t.plan.stepT.getD 0
      let topE := s.app.prevE + stepE
      let topR := s.app.prevR + stepR
      let gear := if t.latched.trans.state = .fresh ∨ t.latched.trans.state = .aging then r.trans.fields.gear else 0
      g.summary.state = t.app.engine ∧ g.summary.holdValue = t.demand.hold.getD 0 ∧
      d = demandForce (roundingOfCode pc.rounding) mass total ∧
      g.summary.dSvc = demandForce (roundingOfCode pc.rounding) mass any ∧
      eCap = mass * pc.driveShare * 9807 / 1000000 * pc.mu / 1000 ∧
      (pc.order = 0 →
        ge = min (min d (min ce eCap)) topE ∧ gr = min (min (d - ge) (min cr (eCap - ge))) topR ∧
        (g.exhaust.flags.ramped = true ↔ topE < min d (min ce eCap)) ∧
        (g.exhaust.flags.capped = true ↔ eCap < d ∧ eCap < ce) ∧
        (g.retarder.flags.ramped = true ↔ topR < min (d - ge) (min cr (eCap - ge))) ∧
        (g.retarder.flags.capped = true ↔ eCap - ge < d - ge ∧ eCap - ge < cr)) ∧
      (pc.order ≠ 0 →
        gr = min (min d (min cr eCap)) topR ∧ ge = min (min (d - gr) (min ce (eCap - gr))) topE ∧
        (g.retarder.flags.ramped = true ↔ topR < min d (min cr eCap)) ∧
        (g.retarder.flags.capped = true ↔ eCap < d ∧ eCap < cr) ∧
        (g.exhaust.flags.ramped = true ↔ topE < min (d - gr) (min ce (eCap - gr))) ∧
        (g.exhaust.flags.capped = true ↔ eCap - gr < d - gr ∧ eCap - gr < ce)) ∧
      (∀ n f, InUse r.exhaust.state → r.exhaust.fields.achieved = some n →
        exhaustForce (roundingOfCode pe.rounding) n gear pt.axleRatio pt.radius = .newtons f →
        g.summary.xE = min ge (f + stepE)) ∧
      ((¬InUse r.exhaust.state ∨ r.exhaust.fields.achieved = none ∨
        ∃ n, r.exhaust.fields.achieved = some n ∧
          exhaustForce (roundingOfCode pe.rounding) n gear pt.axleRatio pt.radius = .novalue) →
        g.summary.xE = ge) ∧
      (∀ n f, InUse r.trans.state → r.trans.fields.achieved = some n →
        retarderForce (roundingOfCode pt.rounding) n pt.axleRatio pt.radius = .newtons f →
        g.summary.xR = min gr (f + stepR)) ∧
      ((¬InUse r.trans.state ∨ r.trans.fields.achieved = none ∨
        ∃ n, r.trans.fields.achieved = some n ∧
          retarderForce (roundingOfCode pt.rounding) n pt.axleRatio pt.radius = .novalue) →
        g.summary.xR = gr) ∧
      g.summary.s = min d g.summary.dSvc - (g.summary.xE + g.summary.xR) ∧
      g.summary.shortfall =
        d - (g.summary.xE + g.summary.xR +
          (g.service.front.grantN + g.service.drive.grantN + g.service.tag.grantN)) ∧
      g.exhaust.units = exhaustTorque ge gear pt.axleRatio pt.radius ∧
      g.retarder.units = retarderTorque gr pt.axleRatio pt.radius ∧
      ∀ i, (g.service.get i).units = pressureGrant (g.service.get i).grantN (pb.axles.get i).gain

/-- The service grants of the set that a boundary begins are the split of its remainder S over the three axles: each axle's
cap, the drive axle's held to E_CAP less the endurance grants (R91), its factor BASE_SHARE x margin (R93), and its frozen
value where its SLIP flag holds a front or tag axle (R76, R92). -/
def Obligations.BoundarySplitsTheRemainder : Prop :=
  ∀ (s : State) (pe : PlanE) (pt : PlanT) (pb : PlanB) (pc : PlanC) (g : GrantSet),
    let t := makeBoundary s
    let axles := t.latched.axles
    t.plan.e.live = some pe → t.plan.t.live = some pt → t.plan.b.live = some pb → t.plan.c.live = some pc →
    t.app.pendingSet = some g →
    ∃ x : PerAxle AxleInput,
      (∀ i, (x.get i).capacity = (g.service.get i).capacity ∧
        (x.get i).cap =
          (if i = .drive then
            min (g.service.get i).capacity (g.summary.eCap - (g.exhaust.grantN + g.retarder.grantN))
          else (g.service.get i).capacity) ∧
        ((x.get i).factor : Int) =
          ((pb.axles.get i).baseShare : Int) *
            max 1 ((pb.fadeOn : Int) - (t.heat.accounts.get i).temp / 65536) ∧
        (i ≠ .drive → InUse axles.state → (axles.fields.axle.get i).slip = true →
          (x.get i).frozen = some (s.app.published.service.get i).grantN) ∧
        ((i = .drive ∨ ¬InUse axles.state ∨ (axles.fields.axle.get i).slip = false) → (x.get i).frozen = none)) ∧
      ∀ i, (g.service.get i).grantN = ((serviceSplit g.summary.s x).get i).grant ∧
        (g.service.get i).flags.frozen = ((serviceSplit g.summary.s x).get i).frozen ∧
        (g.service.get i).flags.capped = ((serviceSplit g.summary.s x).get i).capped

/-- A boundary leaves the period index, the published set, the previous grants, the shortfall run, the SYNC samples, the
port controllers, every mask, RESET and the queue; and the SEEDED mark of every account. -/
def Obligations.BoundaryLeavesTheRest : Prop :=
  ∀ s : State,
    let t := makeBoundary s
    t.timer.index = s.timer.index ∧ t.timer.syncPrev = s.timer.syncPrev ∧ t.timer.syncEdge = s.timer.syncEdge ∧
    t.app.published = s.app.published ∧ t.app.prevE = s.app.prevE ∧ t.app.prevR = s.app.prevR ∧
    t.app.runCount = s.app.runCount ∧ t.app.runPosted = s.app.runPosted ∧ t.ports = s.ports ∧
    (∀ p, (t.events.get p).mask = (s.events.get p).mask) ∧
    (∀ p k, k = .published ∨ k = .shortfall ∨ k = .syncLost ∨ k = .syncEarly ∨ k = .massClamp ∨ k = .seedWanted →
      (t.events.get p).counts.get k = (s.events.get p).counts.get k) ∧
    (∀ i, (t.heat.accounts.get i).seeded = (s.heat.accounts.get i).seeded) ∧
    t.resetHeld = s.resetHeld ∧ t.pending = s.pending ∧ t.tieDraws = s.tieDraws

/-! ### The service split -/

/-- One pass of the split, with A to divide and at least one axle in it (R94): each axle's share is A x f / sum of f toward
zero, 0 where the sum is 0; the remainder, less than the number of axles of the pass where the sum is above 0, goes whole
to one axle of the pass, whose factor no other exceeds and which is the lowest-numbered of those; so the shares sum to
exactly A. An axle out of the pass is given nothing. -/
def Obligations.SplitPassDividesTheWholeAmount : Prop :=
  ∀ (amount : Nat) (x : PerAxle SplitAxle),
    ((x.get .front).active = true ∨ (x.get .drive).active = true ∨ (x.get .tag).active = true) →
    let f := fun i => if (x.get i).active then (x.get i).factor else 0
    let sum := f .front + f .drive + f .tag
    let share := fun i => if sum = 0 then 0 else amount * f i / sum
    let rest := amount - (share .front + share .drive + share .tag)
    let number := fun i : Axle => match i with | .front => 0 | .drive => 1 | .tag => 2
    passGives amount x .front + passGives amount x .drive + passGives amount x .tag = amount ∧
    (∀ i, (x.get i).active = false → passGives amount x i = 0) ∧
    (0 < sum → rest < (x.get .front).active.toNat + (x.get .drive).active.toNat + (x.get .tag).active.toNat) ∧
    ∃ leader, (x.get leader).active = true ∧
      (∀ i, (x.get i).active = true →
        (x.get i).factor ≤ (x.get leader).factor ∧
        ((x.get i).factor = (x.get leader).factor → (number leader : Nat) ≤ number i)) ∧
      passGives amount x leader = share leader + rest ∧ ∀ i, i ≠ leader → passGives amount x i = share i

/-- The whole split. A front claim that fits the remainder S is served and flagged FROZEN, one that does not is cut back to
the lesser of the room and the capacity, CAPPED with FROZEN clear; a tag claim meets the room that the front claim has left
(R92). What is left of S is divided in three passes among the axles without a claim, each starting at 0: a pass adds to each
axle what R94 gives it of the pool, cuts the total to the cap, keeps in the next pass only axles below their caps, and puts
the amounts cut in the next pool; with no axle below its cap the pool stays unserved; an axle's grant is its total, CAPPED
if it was cut in a pass (R94, R95). Such an axle is given at most its cap and is not FROZEN (R95). All grants together are
at most S, and a newton of S is left unserved only where every axle of the split stands at its cap. -/
def Obligations.ServiceSplitServesClaimsThenShares : Prop :=
  (∀ x : SplitState,
    let gives := passGives x.pool x.axles
    let total := fun i => (x.axles.get i).total + gives i
    let y := splitPass x
    ((∀ i, (x.axles.get i).active = false) → y = x) ∧
    ((∃ i, (x.axles.get i).active = true) →
      (∀ i, y.axles.get i = {
        active := (x.axles.get i).active && decide (total i < (x.axles.get i).cap), factor := (x.axles.get i).factor,
        cap := (x.axles.get i).cap, total := min (total i) (x.axles.get i).cap,
        cut := (x.axles.get i).cut || decide ((x.axles.get i).cap < total i) }) ∧
      y.pool = (total .front - (x.axles.get .front).cap) + (total .drive - (x.axles.get .drive).cap) +
        (total .tag - (x.axles.get .tag).cap))) ∧
  ∀ (s : Nat) (x : PerAxle AxleInput), x.drive.frozen = none →
    let g := serviceSplit s x
    (∀ v, x.front.frozen = some v →
      (v ≤ s → g.front = { grant := v, frozen := true, capped := false }) ∧
      (s < v → g.front = { grant := min s x.front.capacity, frozen := false, capped := true })) ∧
    (∀ v, x.tag.frozen = some v →
      let room := s - (if x.front.frozen = none then 0 else g.front.grant)
      (v ≤ room → g.tag = { grant := v, frozen := true, capped := false }) ∧
      (room < v → g.tag = { grant := min room x.tag.capacity, frozen := false, capped := true })) ∧
    let start := fun i => ({
      active := decide ((x.get i).frozen = none), factor := (x.get i).factor, cap := (x.get i).cap, total := 0,
      cut := false } : SplitAxle)
    let claims := (if x.front.frozen = none then 0 else g.front.grant) + if x.tag.frozen = none then 0 else g.tag.grant
    let first : SplitState :=
      { axles := { front := start .front, drive := start .drive, tag := start .tag }, pool := s - claims }
    let done := splitPass (splitPass (splitPass first))
    (∀ i, (x.get i).frozen = none →
      g.get i = { grant := (done.axles.get i).total, frozen := false, capped := (done.axles.get i).cut }) ∧
    (∀ i, (x.get i).frozen = none → (g.get i).grant ≤ (x.get i).cap) ∧
    g.front.grant + g.drive.grant + g.tag.grant ≤ s ∧
    (g.front.grant + g.drive.grant + g.tag.grant < s →
      ∀ i, (x.get i).frozen = none → (g.get i).grant = (x.get i).cap)

/-! ### The conversion unit -/

/-- The four rounding modes, for a positive divisor (R21): a whole quotient stands for itself in every mode; a quotient that
is not whole is rounded to the nearer integer, the even one where twice the remainder equals the divisor; to the integer
nearer to zero; down; or up. -/
def Obligations.RoundingModesRound : Prop :=
  ∀ (n d : Int), 0 < d →
    (∀ m q, n = q * d → roundDiv m n d = q) ∧
    (let r := roundDiv .down n d; r * d ≤ n ∧ n < (r + 1) * d) ∧
    (let r := roundDiv .up n d; (r - 1) * d < n ∧ n ≤ r * d) ∧
    (0 ≤ n → roundDiv .towardZero n d = roundDiv .down n d) ∧
    (n ≤ 0 → roundDiv .towardZero n d = roundDiv .up n d) ∧
    (let r := roundDiv .nearestEven n d;
      2 * |n - r * d| ≤ d ∧ (2 * |n - r * d| = d → r % 2 = 0))

/-- Torque to force, forward. Retarder: T x A x 1000 / (256 x r), rounded by the mode (R27). Exhaust: T x G x A x 1000 /
(65536 x r), and 0 with no division in every lane where G is 0 (R28). A rounded quotient above 400,000 is NOVALUE (R24),
and one below 0 gives 0 (R26). -/
def Obligations.TorqueBecomesForce : Prop :=
  ∀ (m : Rounding) (torque : Int) (g a r : Nat), 0 < r →
    (let q := roundDiv m (torque * a * 1000) (256 * r);
      (400000 < q → retarderForce m torque a r = .novalue) ∧
      (q < 0 → retarderForce m torque a r = .newtons 0) ∧
      (0 ≤ q → q ≤ 400000 → ∃ n : Nat, retarderForce m torque a r = .newtons n ∧ (n : Int) = q)) ∧
    (g = 0 → exhaustForce m torque g a r = .newtons 0) ∧
    (g ≠ 0 →
      let q := roundDiv m (torque * g * a * 1000) (65536 * r)
      (400000 < q → exhaustForce m torque g a r = .novalue) ∧
      (q < 0 → exhaustForce m torque g a r = .newtons 0) ∧
      (0 ≤ q → q ≤ 400000 → ∃ n : Nat, exhaustForce m torque g a r = .newtons n ∧ (n : Int) = q))

/-- Grants in actuator units. A torque grant asks for no more than the force grant, and for the most whole newton-metres
that do not, unless it is held at 32,767 Nm (R29); the exhaust brake's is 0 with gear ratio 0. A pressure grant is at most
1200 kPa, is held there for a force grant above 1200 times the gain, and otherwise is the least that gives at least the force
grant (R32). -/
def Obligations.UnitGrantsStayOnTheirSide : Prop :=
  (∀ f a r : Nat, 0 < a →
    retarderTorque f a r ≤ 32767 ∧ retarderTorque f a r * (a * 1000) ≤ f * 256 * r ∧
    (retarderTorque f a r < 32767 → f * 256 * r < (retarderTorque f a r + 1) * (a * 1000))) ∧
  (∀ f g a r : Nat, 0 < a → g ≠ 0 →
    exhaustTorque f g a r ≤ 32767 ∧ exhaustTorque f g a r * (g * a * 1000) ≤ f * 65536 * r ∧
    (exhaustTorque f g a r < 32767 → f * 65536 * r < (exhaustTorque f g a r + 1) * (g * a * 1000))) ∧
  (∀ f a r : Nat, exhaustTorque f 0 a r = 0) ∧
  ∀ s k : Nat, 0 < k →
    pressureGrant s k ≤ 1200 ∧ (1200 * k < s → pressureGrant s k = 1200) ∧
    (s ≤ 1200 * k → s ≤ pressureGrant s k * k) ∧
    (0 < pressureGrant s k → (pressureGrant s k - 1) * k < s)

/-- A curve of at least one point with x strictly ascending, at an input x (R34): below the first point the first y, above
the last point the last y, at a point that point's y, and strictly between two neighbours the first y plus the rounded
quotient, which lies within the closed range between their y values. -/
def Obligations.CurveInterpolates : Prop :=
  ∀ (m : Rounding) (x : Int) (points : List Point), points.Pairwise (fun p q => p.x < q.x) →
    (∀ p rest, points = p :: rest → x < p.x → curveAt m x points = p.y) ∧
    (∀ front p, points = front ++ [p] → p.x < x → curveAt m x points = p.y) ∧
    (∀ p ∈ points, x = p.x → curveAt m x points = p.y) ∧
    ∀ front p q rest, points = front ++ p :: q :: rest → p.x < x → x < q.x →
      curveAt m x points = p.y + roundDiv m ((q.y - p.y) * (x - p.x)) (q.x - p.x) ∧
      min p.y q.y ≤ curveAt m x points ∧ curveAt m x points ≤ max p.y q.y

/-- The demand of a period. A deceleration becomes a force as m x a / 1000, rounded by the mode (R33), and a stalk stage the
C.STALK value of that stage, 0 for stage 0 (R44). D is the force of the greatest of the pedal, HOLD and stalk decelerations,
D_svc that of the greater of pedal and HOLD, each EMPTY entry counted as 0 (R55). With a mass of at most 32,000 kg, a pedal
of at most 10,000, a HOLD of at most 4,000 and stalk values of at most 4,000, D_svc is not greater than D, and D is at most
320,000 N. -/
def Obligations.ResolvedDemandsAreOrdered : Prop :=
  (∀ (m : Rounding) (mass a : Nat), (demandForce m mass a : Int) = roundDiv m ((mass * a : Nat) : Int) 1000) ∧
  (∀ x : Stalk, stageDeceleration x 0 = 0 ∧ stageDeceleration x 1 = x.stage1 ∧ stageDeceleration x 2 = x.stage2 ∧
    stageDeceleration x 3 = x.stage3 ∧ stageDeceleration x 4 = x.stage4 ∧ stageDeceleration x 5 = x.stage5) ∧
  (∀ (c : PlanC) (mass : Nat) (x : Demand),
    let value := fun (y : Option DemandEntry) => match y with | none => 0 | some entry => entry.value
    let any := max (value x.pedal) (x.hold.getD 0)
    (resolve c mass x).d = demandForce (roundingOfCode c.rounding) mass
      (max any (stageDeceleration c.stalk (value x.stalk))) ∧
    (resolve c mass x).dSvc = demandForce (roundingOfCode c.rounding) mass any ∧
    (resolve c mass x).hold = x.hold.getD 0) ∧
  ∀ (c : PlanC) (mass : Nat) (x : Demand), mass ≤ 32000 →
    (∀ entry, x.pedal = some entry → entry.value ≤ 10000) → (∀ h, x.hold = some h → h ≤ 4000) →
    c.stalk.stage1 ≤ 4000 → c.stalk.stage2 ≤ 4000 → c.stalk.stage3 ≤ 4000 → c.stalk.stage4 ≤ 4000 →
    c.stalk.stage5 ≤ 4000 →
    (resolve c mass x).dSvc ≤ (resolve c mass x).d ∧ (resolve c mass x).d ≤ 320000

/-! ### Selection and bytes -/

/-- SELECT_ASSERT opens an exchange: the status bit on DO, the phase PREFIX, nothing collected (R154, R155); that the bitmap
of the port's pending kinds is taken in this step is the model's reading of R156 (assumption 9), and that the exchange
before is emptied by then its choice (assumption 13). While RESET is held, and where the select is asserted already, only
its level counts, which is the model's choice for the latter (assumption 4). EMPTY_EXCHANGE closes one that carried FILL
bytes alone, and the selection that stood at reset release: the status bit, the error count and the last result stay, and so
does every other part of the state (R155, R156). -/
def Obligations.SelectOpensAndEmptyExchangeLeavesNoTrace : Prop :=
  (∀ (s : State) (p : Port), s.resetHeld = false → (s.port p).sel = false →
    exec (.selectAssert p) s = .next { s with
      ports := s.ports.set p { s.port p with
        sel := true, dout := .status (s.port p).status, phase := .inPrefix, xch := Exchange.empty, snapshot := none,
        bitmap := (s.events.get p).bitmap } }) ∧
  (∀ (s : State) (p : Port), s.resetHeld = true →
    exec (.selectAssert p) s = .next { s with ports := s.ports.set p { s.port p with sel := true } }) ∧
  (∀ (s : State) (p : Port), (s.port p).sel = true → exec (.selectAssert p) s = .next s) ∧
  ∀ (s : State) (p : Port), (s.port p).sel = true → (s.port p).xch.h0 = none →
    exec (.emptyExchange p) s = .next { s with
      ports := s.ports.set p ((s.port p).atRest (s.port p).status (s.port p).errors (s.port p).last) }

/-- BYTE_TAKEN, by the phase that the byte meets (R154): what the port keeps of it, the phase that follows, and the byte
shifted out with it; the snapshot of a READ is the record that its header names as it stands at H1 (R158). Nothing else
changes. -/
def Obligations.ByteActsByPhase : Prop :=
  ∀ (s : State) (p : Port) (v : Byte),
    let x := s.port p
    let map := x.bitmap
    let taken := { x.xch with bits := x.xch.bits + 8 }
    let answers := fun y : PortControl => exec (.byteTaken p v) s = .next { s with ports := s.ports.set p y }
    (x.phase = .idle → answers x) ∧
    (x.phase = .inPrefix →
      (v = 0 → answers { x with xch := taken, dout := .byte (map.extractLsb' 8 8) }) ∧
      (v ≠ 0 → answers { x with
        xch := { taken with h0 := some v }, phase := .inIndex, dout := .byte (map.extractLsb' 8 8) })) ∧
    (∀ h0, x.phase = .inIndex → x.xch.h0 = some h0 →
      (h0.toNat / 16 = 1 → answers { x with
        xch := { taken with h1 := some v }, phase := .inWait, snapshot := readRecord s p (h0.toNat % 16) v.toNat,
        dout := .byte (map.extractLsb' 0 8) }) ∧
      (h0.toNat / 16 ≠ 1 → answers { x with
        xch := { taken with h1 := some v }, phase := .dataIn, dout := .byte (map.extractLsb' 0 8) })) ∧
    (x.phase = .inWait →
      (∀ record, x.snapshot = some record → answers { x with
        xch := { taken with wait := some v }, phase := .readOut, dout := .byte (BitVec.ofNat 8 record.length) }) ∧
      (x.snapshot = none → answers { x with
        xch := { taken with wait := some v }, phase := .readOut, dout := .byte 0 })) ∧
    (x.phase = .readOut →
      ∃ out, ((∀ record (h : x.xch.count < record.length), x.snapshot = some record → out = record[x.xch.count]) ∧
          (∀ record, x.snapshot = some record → record.length ≤ x.xch.count → out = 0) ∧
          (x.snapshot = none → out = 0)) ∧
        (v = 0xFF#8 → answers { x with
          xch := { taken with count := x.xch.count + 1, terminated := true }, phase := .ended, dout := .byte out }) ∧
        (v ≠ 0xFF#8 → answers { x with xch := { taken with count := x.xch.count + 1 }, dout := .byte out })) ∧
    (x.phase = .ended → answers { x with xch := { taken with overrun := true }, dout := .byte 0 }) ∧
    (x.phase = .dataIn →
      (x.xch.data.length < 33 → answers { x with
        xch := { taken with data := x.xch.data ++ [v], count := x.xch.count + 1 }, dout := .byte 0 }) ∧
      (33 ≤ x.xch.data.length → answers { x with
        xch := { taken with count := x.xch.count + 1 }, dout := .byte 0 }))

/-- A whole exchange, byte by byte, at a port that is not selected: with any number of FILL bytes before the header, the
port collects the header and the data of a command other than READ; and of a READ, the wait byte 0xFF, any data bytes but
0xFF, and the termination byte, with the record that its header names as snapshot. No other port and no other block
changes, nor do the port's status bit, error count and last result (R154, R156, R158, R159). -/
def Obligations.BytesCollectTheExchange : Prop :=
  ∀ (s : State) (p : Port) (fills : Nat) (h0 h1 : Byte),
    s.resetHeld = false → (s.port p).sel = false → h0 ≠ 0 →
    let run := fun bytes : List Byte =>
      execAll (.selectAssert p :: (List.replicate fills 0 ++ h0 :: h1 :: bytes).map (.byteTaken p)) s
    let leaves := fun t : State =>
      t = { s with ports := t.ports } ∧ (∀ q, q ≠ p → t.port q = s.port q) ∧ (t.port p).status = (s.port p).status ∧
      (t.port p).errors = (s.port p).errors ∧ (t.port p).last = (s.port p).last
    (h0.toNat / 16 ≠ 1 → ∀ data, ∃ t, run data = .next t ∧ Collected t p h0 h1 data ∧ leaves t) ∧
    (h0.toNat / 16 = 1 → ∀ record data, readRecord s p (h0.toNat % 16) h1.toNat = some record → 0xFF#8 ∉ data →
      ∃ t, run (0xFF#8 :: data ++ [0xFF#8]) = .next t ∧ CollectedRead t p h0 h1 record (data.length + 1) ∧ leaves t)

/-! ### READ and the writes -/

/-- READ: one with a valid header, a wait byte of 0xFF and a termination byte at or before the last byte of its snapshot is
a good exchange, at any port, and changes nothing but its outcome (R157, R158, R162). Otherwise it fails the first of
FRAMING, WAIT, UNTERMINATED, OVERRUN and UNKNOWN that fails, which is recorded with the header as received (R161, R162). -/
def Obligations.ReadCompletesOrFailsInOrder : Prop :=
  (∀ (s : State) (p : Port) (h0 h1 : Byte) (record : List Byte) (count : Nat) (k : RecordClass),
    CollectedRead s p h0 h1 record count → h0.toNat / 16 = 1 → classOfCode (h0.toNat % 16) = some k → k ≠ .seed →
    h1.toNat ≤ lastIndex k → count ≤ record.length →
    exec (.read p 0) s = .next (s.withGood p h0 h1 .ok 0)) ∧
  ∀ (s : State) (p : Port) (stray : Nat) (h0 : Byte),
    (s.port p).phase ≠ .idle → (s.port p).xch.h0 = some h0 → h0.toNat / 16 = 1 →
    let x := (s.port p).xch
    let index := match x.h1 with | none => 0 | some h1 => h1.toNat
    let fails := fun code => exec (.read p stray) s = .next { s with
      ports := s.ports.set p ((s.port p).atRest false (min 255 ((s.port p).errors + 1))
        { command := 1, cls := h0.toNat % 16, index := index, code := code, detail1 := 0, detail2 := 0,
          detail3 := 0 }) }
    ((x.bits + stray) % 8 ≠ 0 → fails .framing) ∧
    ((x.bits + stray) % 8 = 0 → x.wait ≠ some 0xFF#8 → fails .wait) ∧
    ((x.bits + stray) % 8 = 0 → x.wait = some 0xFF#8 → x.terminated = false → fails .unterminated) ∧
    ((x.bits + stray) % 8 = 0 → x.wait = some 0xFF#8 → x.terminated = true →
      (x.overrun = true ∨ ∃ record, (s.port p).snapshot = some record ∧ record.length < x.count) → fails .overrun) ∧
    ((x.bits + stray) % 8 = 0 → x.wait = some 0xFF#8 → x.terminated = true → x.overrun = false →
      (∀ record, (s.port p).snapshot = some record → x.count ≤ record.length) →
      (x.h1 = none ∨ classOfCode (h0.toNat % 16) = none ∨ h0.toNat % 16 = 12 ∨
        ∃ k, classOfCode (h0.toNat % 16) = some k ∧ lastIndex k < index) → fails .unknown)

/-- The writes of DEMAND and HOLD_SET. Port B's PEDAL holds the value written, 10,000 at most, and port C's STALK the stage,
5 at most, with age 0 and the refresh mark clear (R38, R39); port C's HOLD_SET holds the flag and the speed, brought into
50..1200 (R45); the bytes lie as section 9.9 has them (R166, assumption 12). The same write at another port fails OWNER and
changes nothing (R38, R39, R45), and so does a write of HOLD at every port; with another number of data bytes a write fails
LENGTH (R161). -/
def Obligations.DemandWritesAreStored : Prop :=
  (∀ (s : State) (hi lo : Byte), Collected s .b 0x25#8 0#8 [hi, lo] →
    exec (.writeDemand .b 0) s = .next { s.withGood .b 0x25#8 0#8 .ok 0 with
      demand := { s.demand with
        pedal := some { value := min 10000 (hi.toNat * 256 + lo.toNat), age := 0, mark := false } } }) ∧
  (∀ (s : State) (hi lo : Byte), Collected s .c 0x25#8 1#8 [hi, lo] →
    exec (.writeDemand .c 0) s = .next { s.withGood .c 0x25#8 1#8 .ok 0 with
      demand := { s.demand with
        stalk := some { value := min 5 (hi.toNat * 256 + lo.toNat), age := 0, mark := false } } }) ∧
  (∀ (s : State) (flag hi lo : Byte), Collected s .c 0x26#8 0#8 [flag, hi, lo] →
    exec (.writeHoldSet .c 0) s = .next { s.withGood .c 0x26#8 0#8 .ok 0 with
      demand := { s.demand with
        holdEnabled := decide (flag ≠ 0), setSpeed := max 50 (min 1200 (hi.toNat * 256 + lo.toNat)) } }) ∧
  (∀ (s : State) (p : Port) (hi lo : Byte), p ≠ .b → Collected s p 0x25#8 0#8 [hi, lo] →
    exec (.writeDemand p 0) s = .next (s.withBad p 0x25#8 0#8 .owner 0 0 0)) ∧
  (∀ (s : State) (p : Port) (hi lo : Byte), p ≠ .c → Collected s p 0x25#8 1#8 [hi, lo] →
    exec (.writeDemand p 0) s = .next (s.withBad p 0x25#8 1#8 .owner 0 0 0)) ∧
  (∀ (s : State) (p : Port) (flag hi lo : Byte), p ≠ .c → Collected s p 0x26#8 0#8 [flag, hi, lo] →
    exec (.writeHoldSet p 0) s = .next (s.withBad p 0x26#8 0#8 .owner 0 0 0)) ∧
  ∀ (s : State) (p : Port) (data : List Byte),
    (Collected s p 0x25#8 2#8 data → exec (.writeDemand p 0) s = .next (s.withBad p 0x25#8 2#8 .owner 0 0 0)) ∧
    (∀ index : Byte, index.toNat ≤ 1 → Collected s p 0x25#8 index data → data.length ≠ 2 →
      exec (.writeDemand p 0) s = .next (s.withBad p 0x25#8 index .length 0 0 0)) ∧
    (Collected s p 0x26#8 0#8 data → data.length ≠ 3 →
      exec (.writeHoldSet p 0) s = .next (s.withBad p 0x26#8 0#8 .length 0 0 0))

/-- The writes of REPORT, each at its owner with its length, by the layout of R169: the record holds the fields brought into
their ranges, FRESH with age 0 and the refresh mark clear, an optional field whose flag is clear as absent (R61); a VEHICLE
write with MASS_KG out of 5,000..32,000 posts MASS_CLAMP to port C, and one within posts nothing (R54). At another port the
write fails OWNER, and with another number of data bytes LENGTH. -/
def Obligations.ReportWritesAreStored : Prop :=
  ∀ (s : State) (data : List Byte),
    let byte := fun i => (data.getD i 0).toNat
    let word := fun i => byte i * 256 + byte (i + 1)
    let signed := fun i => (data.getD i 0 ++ data.getD (i + 1) 0 : BitVec 16).toInt
    let torque := fun i => if byte i = 0 then none else some (signed (i + 1))
    let axle := fun i : Nat => ({
      pmax := min 1200 (word i)
      achieved := if byte (i + 2) = 0 then none else some (min 1200 (word (i + 3)))
      slip := decide (byte (i + 5) ≠ 0) } : AxleReport)
    (Collected s .e 0x27#8 0#8 data → data.length = 6 →
      exec (.writeReport .e 0) s = .next { s.withGood .e 0x27#8 0#8 .ok 0 with
        reports := { s.reports with exhaust := {
          state := .fresh, age := 0, mark := false,
          fields := { rpm := min 4000 (word 0), avail := min 100 (byte 2), achieved := torque 3 } } } }) ∧
    (Collected s .t 0x27#8 1#8 data → data.length = 9 →
      exec (.writeReport .t 0) s = .next { s.withGood .t 0x27#8 1#8 .ok 0 with
        reports := { s.reports with trans := {
          state := .fresh, age := 0, mark := false,
          fields := {
            rpm := min 6000 (word 0), avail := min 100 (byte 2), achieved := torque 3, gear := word 6,
            shifting := decide (byte 8 ≠ 0) } } } }) ∧
    (Collected s .b 0x27#8 2#8 data → data.length = 20 →
      exec (.writeReport .b 0) s = .next { s.withGood .b 0x27#8 2#8 .ok 0 with
        reports := { s.reports with axles := {
          state := .fresh, age := 0, mark := false,
          fields := { speed := min 1600 (word 0), axle := { front := axle 2, drive := axle 8, tag := axle 14 } } } } }) ∧
    (Collected s .c 0x27#8 3#8 data → data.length = 4 →
      ∃ ev, exec (.writeReport .c 0) s = .next { s.withGood .c 0x27#8 3#8 .ok 0 with
          reports := { s.reports with vehicle := {
            written := true, mass := max 5000 (min 32000 (word 0)), ambient := max (-40) (min 60 (signed 2)) } },
          events := ev } ∧
        (∀ p, (ev.get p).mask = (s.events.get p).mask) ∧
        ∀ p k, (ev.get p).counts.get k =
          if p = .c ∧ k = .massClamp ∧ (word 0 < 5000 ∨ 32000 < word 0)
          then min 255 ((s.events.get p).counts.get k + 1) else (s.events.get p).counts.get k) ∧
    (∀ (p : Port) (index : Byte), index.toNat ≤ 3 → Collected s p 0x27#8 index data →
      data.length = [6, 9, 20, 4].getD index.toNat 0 → portNumber p ≠ index.toNat →
      exec (.writeReport p 0) s = .next (s.withBad p 0x27#8 index .owner 0 0 0)) ∧
    ∀ (p : Port) (index : Byte), index.toNat ≤ 3 → Collected s p 0x27#8 index data →
      data.length ≠ [6, 9, 20, 4].getD index.toNat 0 →
      exec (.writeReport p 0) s = .next (s.withBad p 0x27#8 index .length 0 0 0)

/-- A write of PLAN_STAGED, by the lengths of the parts, a curve's from its COUNT of at most 8 (R129, R166): the owner's
write replaces the part while the section's mark is clear, each field from its own offset, in the field order of R127 and
the widths of R166 (assumption 12), a curve by COUNT points, x then y; otherwise it fails LENGTH, OWNER or PENDING, the
first of these, and nothing changes (R128). -/
def Obligations.StagedWriteReplacesThePart : Prop :=
  ∀ (s : State) (p : Port) (index : Byte) (data : List Byte), index.toNat ≤ 10 →
    Collected s p 0x2A#8 index data →
    let byte := fun i => (data.getD i 0).toNat
    let word := fun i => byte i * 256 + byte (i + 1)
    let long := fun i => word i * 65536 + word (i + 2)
    let signed := fun i => (data.getD i 0 ++ data.getD (i + 1) 0 : BitVec 16).toInt
    let count := byte 0
    let torques := (List.range count).map fun k => ({ x := word (1 + 4 * k), y := word (3 + 4 * k) } : Point)
    let fades := (List.range count).map fun k => ({ x := signed (1 + 3 * k), y := byte (3 + 3 * k) } : Point)
    let axle : AxlePlan := { gain := word 0, baseShare := word 2, cTh := long 4, lambda := word 8 }
    let e := s.plan.e.staged
    let t := s.plan.t.staged
    let b := s.plan.b.staged
    let c := s.plan.c.staged
    let intoE := fun x : PlanE => { s.plan with e := { s.plan.e with staged := x } }
    let intoT := fun x : PlanT => { s.plan with t := { s.plan.t with staged := x } }
    let intoB := fun x : PlanB => { s.plan with b := { s.plan.b with staged := x } }
    let intoC := fun x : PlanC => { s.plan with c := { s.plan.c with staged := x } }
    let written : PlanStore := match index.toNat with
      | 0 => intoE { e with rampRate := long 0, rounding := byte 4 }
      | 1 => intoE { e with curve := torques }
      | 2 => intoT { t with
          rampRate := long 0, axleRatio := word 4, radius := word 6, shiftMax := word 8, rounding := byte 10 }
      | 3 => intoT { t with curve := torques }
      | 4 => intoB { b with
          warmOn := word 0, hotOn := word 2, fadeOn := word 4, hyst := byte 6, slipHold := word 7, rounding := byte 9 }
      | 5 => intoB { b with axles := { b.axles with front := axle } }
      | 6 => intoB { b with axles := { b.axles with drive := axle } }
      | 7 => intoB { b with axles := { b.axles with tag := axle } }
      | 8 => intoB { b with fade := fades }
      | 9 => intoC { c with
          p := byte 0, q := byte 1, syncMode := byte 2, order := byte 3, softAge := byte 4, hardAge := byte 5,
          driveShare := word 6, mu := word 8, nominalMass := word 10, kp := byte 12, ki := byte 13, holdMax := word 14,
          shortThreshold := long 16, shortCount := byte 20, fallbackSpeed := word 21, rounding := byte 23 }
      | _ => intoC { c with
          stalk := { stage1 := word 0, stage2 := word 2, stage3 := word 4, stage4 := word 6, stage5 := word 8 } }
    let owner : Port := [Port.e, .e, .t, .t, .b, .b, .b, .b, .b, .c, .c].getD index.toNat .c
    let curve := fun n => data ≠ [] ∧ count ≤ 8 ∧ data.length = 1 + count * n
    let fits :=
      if index.toNat = 1 ∨ index.toNat = 3 then curve 4
      else if index.toNat = 8 then curve 3
      else data.length = [5, 0, 11, 0, 10, 10, 10, 10, 0, 24, 10].getD index.toNat 0
    let marked := match p with
      | .e => s.plan.e.pending
      | .t => s.plan.t.pending
      | .b => s.plan.b.pending
      | .c => s.plan.c.pending
    (fits → p = owner → marked = false →
      exec (.writePlanStaged p 0) s = .next { s.withGood p 0x2A#8 index .ok 0 with plan := written }) ∧
    (¬fits → exec (.writePlanStaged p 0) s = .next (s.withBad p 0x2A#8 index .length 0 0 0)) ∧
    (fits → p ≠ owner → exec (.writePlanStaged p 0) s = .next (s.withBad p 0x2A#8 index .owner 0 0 0)) ∧
    (fits → p = owner → marked = true →
      exec (.writePlanStaged p 0) s = .next (s.withBad p 0x2A#8 index .pending 0 0 0))

/-- A write of SEED at port B (R122, R123): with no present value it fails RANGE; otherwise each axle with a present value
whose account is not seeded takes the value, brought into -40..900 degrees C, times 65,536, becomes seeded and has its
saturation mark cleared, its heat state as it was; the result is OK, or SEED_PARTIAL with the ignored axles, 1 front, 2
drive, 4 tag, added together. Either of the two leaves status 1 and the error count as it was. The nine bytes lie as section
9.9 has them, a present flag and a temperature for each axle in turn (R166, assumption 12). At another port the write fails
OWNER, and with another number of data bytes LENGTH (R161). -/
def Obligations.SeedWriteSeedsOnce : Prop :=
  (∀ (s : State) (p : Port) (data : List Byte), Collected s p 0x2C#8 0#8 data → data.length ≠ 9 →
    exec (.writeSeed p 0) s = .next (s.withBad p 0x2C#8 0#8 .length 0 0 0)) ∧
  ∀ (s : State) (data : List Byte), Collected s .b 0x2C#8 0#8 data → data.length = 9 →
    let offset := fun i : Axle => match i with | .front => 0 | .drive => 3 | .tag => 6
    let present := fun i => (data.getD (offset i) 0) != 0
    let value := fun i => (data.getD (offset i + 1) 0 ++ data.getD (offset i + 2) 0 : BitVec 16).toInt
    let ignored := fun i => present i && (s.heat.accounts.get i).seeded
    let detail := (ignored .front).toNat + 2 * (ignored .drive).toNat + 4 * (ignored .tag).toNat
    ((∀ i, present i = false) → exec (.writeSeed .b 0) s = .next (s.withBad .b 0x2C#8 0#8 .range 0 0 0)) ∧
    ((∃ i, present i = true) → ∃ accounts, exec (.writeSeed .b 0) s =
        .next { s.withGood .b 0x2C#8 0#8 (if detail = 0 then .ok else .seedPartial) detail with
          heat := { s.heat with accounts := accounts } } ∧
      ∀ i,
        (present i = true → (s.heat.accounts.get i).seeded = false →
          accounts.get i = { s.heat.accounts.get i with
            temp := max (-40) (min 900 (value i)) * 65536, seeded := true, sat := false }) ∧
        ((present i = false ∨ (s.heat.accounts.get i).seeded = true) → accounts.get i = s.heat.accounts.get i)) ∧
    ∀ (t : State) (p : Port), p ≠ .b → Collected t p 0x2C#8 0#8 data →
      exec (.writeSeed p 0) t = .next (t.withBad p 0x2C#8 0#8 .owner 0 0 0)

/-- The records of a port that the port itself writes. A WRITE of EVENT_MASK replaces the whole mask, bit k for kind k, and
leaves every count (R173); a WRITE of PORT_STATUS with COUNT 0 sets the port's error count to 0, and with another COUNT
leaves it (R163); both are good exchanges. At another port's index either fails OWNER, and with another number of data
bytes LENGTH (R161). -/
def Obligations.OwnRecordsAreWritten : Prop :=
  ∀ (s : State) (p : Port) (index hi lo : Byte), index.toNat ≤ 3 →
    (portNumber p = index.toNat → Collected s p 0x24#8 index [hi, lo] →
      exec (.writeEventMask p 0) s = .next { s.withGood p 0x24#8 index .ok 0 with
        events := s.events.set p { s.events.get p with mask := hi ++ lo } }) ∧
    (portNumber p ≠ index.toNat → Collected s p 0x24#8 index [hi, lo] →
      exec (.writeEventMask p 0) s = .next (s.withBad p 0x24#8 index .owner 0 0 0)) ∧
    (portNumber p = index.toNat → Collected s p 0x22#8 index [lo] →
      (lo ≠ 0 → exec (.writePortStatus p 0) s = .next (s.withGood p 0x22#8 index .ok 0)) ∧
      (lo = 0 → exec (.writePortStatus p 0) s = .next { s with
        ports := s.ports.set p ((s.port p).atRest true 0 (headerResult 0x22#8 index .ok 0 0 0)) })) ∧
    (portNumber p ≠ index.toNat → Collected s p 0x22#8 index [lo] →
      exec (.writePortStatus p 0) s = .next (s.withBad p 0x22#8 index .owner 0 0 0)) ∧
    ∀ data,
      (Collected s p 0x24#8 index data → data.length ≠ 2 →
        exec (.writeEventMask p 0) s = .next (s.withBad p 0x24#8 index .length 0 0 0)) ∧
      (Collected s p 0x22#8 index data → data.length ≠ 1 →
        exec (.writePortStatus p 0) s = .next (s.withBad p 0x22#8 index .length 0 0 0))

/-- WRITE of a class that no port may write: a WRITE of IDENT, EVENTS, GRANT, HEAT or PLAN_LIVE, or of DEMAND index 2, passes
LENGTH at any byte count and fails OWNER at every port (R161). Every exchange but a READ whose header names a pairing that
R157 does not allow, or an index out of the class's range, or whose H1 did not arrive, fails UNKNOWN at the command that
ends it, whatever its data (R157, R161). UNKNOWN_COMMAND fails UNKNOWN, and FRAMING with a partial byte, a partial byte with
no header included (R161); that this row covers each such exchange is the model's reading (assumption 10). -/
def Obligations.UnownedAndUnknownExchangesFail : Prop :=
  (∀ (s : State) (p : Port) (h0 h1 : Byte) (data : List Byte), h0.toNat / 16 = 2 → Collected s p h0 h1 data →
    let cls := h0.toNat % 16
    let index := h1.toNat
    (cls = 1 ∧ index = 0) ∨ (cls = 3 ∧ index ≤ 3) ∨ (cls = 5 ∧ index = 2) ∨ (cls = 8 ∧ index ≤ 5) ∨
        (cls = 9 ∧ index ≤ 2) ∨ (cls = 11 ∧ index ≤ 10) →
      exec (.write p 0) s = .next (s.withBad p h0 h1 .owner 0 0 0)) ∧
  (∀ (s : State) (p : Port) (c : Instr) (h0 h1 : Byte) (data : List Byte), Collected s p h0 h1 data →
    EndsExchange s p 0 c → h0.toNat / 16 ≠ 1 →
    let command := h0.toNat / 16
    let cls := h0.toNat % 16
    let index := h1.toNat
    ¬((command = 2 ∧ 1 ≤ cls ∧ cls ≤ 12 ∧ index ≤ [0, 0, 3, 3, 3, 2, 0, 3, 5, 2, 10, 10, 0].getD cls 0) ∨
      ((command = 3 ∨ command = 4) ∧ cls = 10 ∧ index ≤ 10) ∨ (command = 5 ∧ cls = 3 ∧ index ≤ 3) ∨
      (command = 6 ∧ cls = 0 ∧ index = 0)) →
    exec c s = .next (s.withBad p h0 h1 .unknown 0 0 0)) ∧
  (∀ (s : State) (p : Port) (c : Instr) (h0 : Byte), (s.port p).phase = .inIndex → (s.port p).xch.h0 = some h0 →
    (s.port p).xch.h1 = none → (s.port p).xch.bits % 8 = 0 → EndsExchange s p 0 c → h0.toNat / 16 ≠ 1 →
    exec c s = .next (s.withBad p h0 0 .unknown 0 0 0)) ∧
  (∀ (s : State) (p : Port) (stray : Nat) (h0 h1 : Byte) (data : List Byte),
    h0.toNat / 16 = 0 ∨ 7 ≤ h0.toNat / 16 → Collected s p h0 h1 data →
    exec (.unknownCommand p stray) s =
      .next (s.withBad p h0 h1 (if stray % 8 = 0 then .unknown else .framing) 0 0 0)) ∧
  ∀ (s : State) (p : Port) (stray : Nat),
    (s.port p).phase = .inPrefix → (s.port p).xch.h0 = none → (s.port p).xch.h1 = none →
    ((s.port p).xch.bits + stray) % 8 ≠ 0 →
    exec (.unknownCommand p stray) s = .next (s.withBad p 0 0 .framing 0 0 0)

/-! ### The commands that act -/

/-- COMMIT (R131), with the index of any part of the owner's section: PENDING while the mark is set; INVALID, with the first
failing check, its part and its item, where the staged copy fails a check; otherwise OK and the mark is set. WITHDRAW (R139):
OK and the mark is cleared, or STATE where it is clear. Either fails OWNER at another port, LENGTH with data bytes. -/
def Obligations.CommitAndWithdrawMoveTheMark : Prop :=
  ∀ (s : State) (p : Port) (index : Byte), index.toNat ≤ 10 →
    let owner : Port := [Port.e, .e, .t, .t, .b, .b, .b, .b, .b, .c, .c].getD index.toNat .c
    let fault := match p with
      | .e => checkE s.plan.e.staged
      | .t => checkT s.plan.t.staged
      | .b => checkB s.plan.b.staged
      | .c => checkC s.plan.c.staged
    let marked := match p with
      | .e => s.plan.e.pending
      | .t => s.plan.t.pending
      | .b => s.plan.b.pending
      | .c => s.plan.c.pending
    let mark := fun v => match p with
      | .e => { s.plan with e := { s.plan.e with pending := v } }
      | .t => { s.plan with t := { s.plan.t with pending := v } }
      | .b => { s.plan with b := { s.plan.b with pending := v } }
      | .c => { s.plan with c := { s.plan.c with pending := v } }
    (Collected s p 0x3A#8 index [] →
      (p ≠ owner → exec (.commit p 0) s = .next (s.withBad p 0x3A#8 index .owner 0 0 0)) ∧
      (p = owner → marked = true → exec (.commit p 0) s = .next (s.withBad p 0x3A#8 index .pending 0 0 0)) ∧
      (p = owner → marked = false → ∀ f, fault = some f →
        exec (.commit p 0) s = .next (s.withBad p 0x3A#8 index .invalid f.code f.part f.item)) ∧
      (p = owner → marked = false → fault = none →
        exec (.commit p 0) s = .next { s.withGood p 0x3A#8 index .ok 0 with plan := mark true })) ∧
    (Collected s p 0x4A#8 index [] →
      (p ≠ owner → exec (.withdraw p 0) s = .next (s.withBad p 0x4A#8 index .owner 0 0 0)) ∧
      (p = owner → marked = true →
        exec (.withdraw p 0) s = .next { s.withGood p 0x4A#8 index .ok 0 with plan := mark false }) ∧
      (p = owner → marked = false → exec (.withdraw p 0) s = .next (s.withBad p 0x4A#8 index .state 0 0 0))) ∧
    ∀ data, data ≠ [] →
      (Collected s p 0x3A#8 index data → exec (.commit p 0) s = .next (s.withBad p 0x3A#8 index .length 0 0 0)) ∧
      (Collected s p 0x4A#8 index data → exec (.withdraw p 0) s = .next (s.withBad p 0x4A#8 index .length 0 0 0))

/-- ACK (R175): at the port's own index and with sixteen data bytes, each count is lowered by its echoed count and not below
0, the mask and every other unit as they were, and the attention line is asserted while a kind is then pending and enabled
(R172). At another port's index it fails OWNER, and with another number of data bytes LENGTH; then no count changes. -/
def Obligations.AckLowersTheCounts : Prop :=
  ∀ (s : State) (p : Port) (index : Byte) (data : List Byte), index.toNat ≤ 3 → Collected s p 0x53#8 index data →
    (portNumber p = index.toNat → data.length = 16 →
      ∃ ev, exec (.ack p 0) s = .next { s.withGood p 0x53#8 index .ok 0 with events := ev } ∧
        (∀ q, (ev.get q).mask = (s.events.get q).mask) ∧
        (∀ q k, (ev.get q).counts.get k =
          if q = p then (s.events.get q).counts.get k - (data.getD (kindNumber k) 0).toNat
          else (s.events.get q).counts.get k) ∧
        ∀ t, exec (.ack p 0) s = .next t → (t.attention p = true ↔
          t.resetHeld = false ∧ ∃ k, 0 < (ev.get p).counts.get k ∧ (ev.get p).mask.getLsbD (kindNumber k) = true)) ∧
    (data.length ≠ 16 → exec (.ack p 0) s = .next (s.withBad p 0x53#8 index .length 0 0 0)) ∧
    (portNumber p ≠ index.toNat → data.length = 16 →
      exec (.ack p 0) s = .next (s.withBad p 0x53#8 index .owner 0 0 0))

/-- RESTART at port C (R149). The published set becomes zeros with VALID clear, its index kept and STATE that of the engine,
the pending set is discarded, the previous grants and the shortfall run become 0 (R106); the demand table is emptied,
HOLD_SET becomes disabled with 800, the integrator 0 (R59); STATE_CHANGE goes to every port (R150). Then the timer makes a
boundary at once in OPEN and CLOSED and, with a counter of 20 or above, in START; below 20, and in GUARD, it sets the restart
request (R16). At another port it fails OWNER, and with data bytes LENGTH (R159, R161), and nothing acts. -/
def Obligations.RestartClearsAndRequestsABoundary : Prop :=
  (∀ s : State, Collected s .c 0x60#8 0#8 [] →
    ∃ u, (∃ app demand ev, u = { s with app := app, demand := demand, events := ev }) ∧
      (u.app.published = GrantSet.zero s.app.engine s.app.published.periodIndex ∧ u.app.pendingSet = none ∧
        u.app.prevE = 0 ∧ u.app.prevR = 0 ∧ u.app.runCount = 0 ∧ u.app.runPosted = false ∧
        u.app.engine = s.app.engine) ∧
      u.demand =
        { pedal := none, stalk := none, hold := none, holdEnabled := false, setSpeed := 800, integrator := 0 } ∧
      (∀ p, (u.events.get p).mask = (s.events.get p).mask) ∧
      (∀ p k, (u.events.get p).counts.get k =
        if k = .stateChange then min 255 ((s.events.get p).counts.get k + 1) else (s.events.get p).counts.get k) ∧
      ((s.timer.phase = .openPhase ∨ s.timer.phase = .closed ∨ (s.timer.phase = .start ∧ 20 ≤ s.timer.counter)) →
        exec (.restart .c 0) s = .next ((makeBoundary u).withGood .c 0x60#8 0#8 .ok 0)) ∧
      ((s.timer.phase = .guarding ∨ (s.timer.phase = .start ∧ s.timer.counter < 20)) →
        exec (.restart .c 0) s =
          .next ({ u with timer := { s.timer with restartReq := true } }.withGood .c 0x60#8 0#8 .ok 0))) ∧
  (∀ (s : State) (p : Port), p ≠ .c → Collected s p 0x60#8 0#8 [] →
    exec (.restart p 0) s = .next (s.withBad p 0x60#8 0#8 .owner 0 0 0)) ∧
  ∀ (s : State) (p : Port) (data : List Byte), data ≠ [] → Collected s p 0x60#8 0#8 data →
    exec (.restart p 0) s = .next (s.withBad p 0x60#8 0#8 .length 0 0 0)

/-! ### Every exchange -/

/-- An exchange whose number of bits is not a multiple of 8 fails FRAMING whatever else it holds, and nothing acts (R161,
R162): each command, with a partial byte after its whole bytes. -/
def Obligations.PartialBytesFailFraming : Prop :=
  ∀ (s : State) (p : Port) (stray : Nat) (h0 : Byte),
    (s.port p).phase ≠ .idle → (s.port p).xch.h0 = some h0 → ((s.port p).xch.bits + stray) % 8 ≠ 0 →
    let command := h0.toNat / 16
    let cls := h0.toNat % 16
    let index := match (s.port p).xch.h1 with | none => 0 | some h1 => h1.toNat
    let fails := fun c => exec c s = .next { s with
      ports := s.ports.set p ((s.port p).atRest false (min 255 ((s.port p).errors + 1))
        { command := command, cls := cls, index := index, code := .framing, detail1 := 0, detail2 := 0,
          detail3 := 0 }) }
    (command = 1 → fails (.read p stray)) ∧
    (command = 2 →
      (cls = 5 → fails (.writeDemand p stray)) ∧ (cls = 6 → fails (.writeHoldSet p stray)) ∧
      (cls = 7 → fails (.writeReport p stray)) ∧ (cls = 10 → fails (.writePlanStaged p stray)) ∧
      (cls = 12 → fails (.writeSeed p stray)) ∧ (cls = 4 → fails (.writeEventMask p stray)) ∧
      (cls = 2 → fails (.writePortStatus p stray)) ∧
      (cls = 0 ∨ cls = 1 ∨ cls = 3 ∨ cls = 8 ∨ cls = 9 ∨ cls = 11 ∨ 13 ≤ cls → fails (.write p stray))) ∧
    (command = 3 → fails (.commit p stray)) ∧ (command = 4 → fails (.withdraw p stray)) ∧
    (command = 5 → fails (.ack p stray)) ∧ (command = 6 → fails (.restart p stray)) ∧
    (command = 0 ∨ 7 ≤ command → fails (.unknownCommand p stray))

/-- Every command of a port leaves the other ports' controllers as they are (R154). A release that ends the exchange open at
its port leaves the port at IDLE with DO in high impedance, and either the exchange is good, with OK or SEED_PARTIAL and
status 1, or it fails with another code: then nothing but the port changes, the status bit becomes 0 and the error count
rises by one, held at 255 (R160, R162). A release with no exchange of its kind open changes nothing, which is the model's
choice (assumption 4). -/
def Obligations.ExchangesActWholeOrNotAtAll : Prop :=
  (∀ (s t : State) (p q : Port) (v : Byte) (c : Instr), q ≠ p →
    c ∈ [.selectAssert p, .emptyExchange p, .byteTaken p v] → exec c s = .next t → t.port q = s.port q) ∧
  ∀ (s t : State) (p : Port) (stray : Nat) (c : Instr),
    c ∈ [.read p stray, .writeDemand p stray, .writeHoldSet p stray, .writeReport p stray, .writePlanStaged p stray,
      .writeSeed p stray, .writeEventMask p stray, .writePortStatus p stray, .write p stray, .commit p stray,
      .withdraw p stray, .ack p stray, .restart p stray, .unknownCommand p stray] →
    exec c s = .next t →
    (∀ q, q ≠ p → t.port q = s.port q) ∧
    (¬EndsExchange s p stray c → t = s) ∧
    (EndsExchange s p stray c →
      (t.port p).phase = .idle ∧ (t.port p).dout = .highZ ∧ (t.port p).sel = false ∧
        ((((t.port p).last.code = .ok ∨ (t.port p).last.code = .seedPartial) ∧ (t.port p).status = true ∧
          ((t.port p).errors = (s.port p).errors ∨ (c = .writePortStatus p stray ∧ (t.port p).errors = 0))) ∨
        ((t.port p).last.code ≠ .ok ∧ (t.port p).last.code ≠ .seedPartial ∧ (t.port p).last.code ≠ .none ∧
          (t.port p).status = false ∧ (t.port p).errors = min 255 ((s.port p).errors + 1) ∧
          t = { s with ports := s.ports.set p (t.port p) })))

/-! ### Event units and records -/

/-- A posting raises the count of its kind by one at each port named, held at 255, and nothing else; postings need no order
among themselves, and two of one kind to one port raise the count by two (R171). A posting and an ACK whose echo is not
above the count give the same count in either order while the posting is kept; at 255 the order matters (R176). -/
def Obligations.PostingsRaiseCounts : Prop :=
  (∀ (s : State) (k : EventKind) (ps : List Port),
    s.post k ps = { s with events := (s.post k ps).events } ∧
    (∀ p, ((s.post k ps).events.get p).mask = (s.events.get p).mask) ∧
    ∀ p k', ((s.post k ps).events.get p).counts.get k' =
      if p ∈ ps ∧ k' = k then min 255 ((s.events.get p).counts.get k' + 1) else (s.events.get p).counts.get k') ∧
  (∀ (s : State) (k k' : EventKind) (ps ps' : List Port), (s.post k ps).post k' ps' = (s.post k' ps').post k ps) ∧
  (∀ (s : State) (k : EventKind) (ps ps' : List Port) (p : Port), p ∈ ps → p ∈ ps' →
    (((s.post k ps).post k ps').events.get p).counts.get k = min 255 ((s.events.get p).counts.get k + 2)) ∧
  ∀ (u : EventUnit) (k : EventKind) (echo : EventKind → Nat),
    (echo k ≤ u.counts.get k → u.counts.get k < 255 →
      ((u.post k).acknowledge echo).counts.get k = u.counts.get k + 1 - echo k ∧
      ((u.acknowledge echo).post k).counts.get k = u.counts.get k + 1 - echo k) ∧
    (u.counts.get k = 255 → echo k = 255 →
      ((u.post k).acknowledge echo).counts.get k = 0 ∧ ((u.acknowledge echo).post k).counts.get k = 1)

/-- The bitmap of an exchange has bit k set while the count of kind k is above 0, whatever the mask (R156). The attention
output is asserted while at least one kind is both pending and enabled, and released while RESET is held (R172). -/
def Obligations.BitmapAndAttentionFollowTheCounts : Prop :=
  (∀ (u : EventUnit) (k : EventKind), u.bitmap.getLsbD (kindNumber k) = decide (0 < u.counts.get k)) ∧
  ∀ (s : State) (p : Port), s.attention p = true ↔ s.resetHeld = false ∧
    ∃ k, 0 < (s.events.get p).counts.get k ∧ (s.events.get p).mask.getLsbD (kindNumber k) = true

/-- A part written to the staged copy at the length it requires reads back byte for byte as written (R128, R129, R130,
R166), and the write leaves every other part, every live copy, every mark and both ramp steps as they are. -/
def Obligations.StagedPartReadsBackAsWritten : Prop :=
  ∀ (plan : PlanStore) (index : Nat) (data : List Byte), index ≤ 10 → partLength index data = some data.length →
    let after := plan.writePart index data
    sendPart after.stagedCopy index = data ∧
    (∀ other, other ≤ 10 → other ≠ index → sendPart after.stagedCopy other = sendPart plan.stagedCopy other) ∧
    after.e.live = plan.e.live ∧ after.t.live = plan.t.live ∧ after.b.live = plan.b.live ∧
    after.c.live = plan.c.live ∧ after.e.pending = plan.e.pending ∧ after.t.pending = plan.t.pending ∧
    after.b.pending = plan.b.pending ∧ after.c.pending = plan.c.pending ∧ after.stepE = plan.stepE ∧
    after.stepT = plan.stepT

/-- The length of every record that a READ shows (R166), by class code and index, which headers name a record that can be
read (R157), and what the bytes show: IDENT (R164), PORT_STATUS (R163), EVENTS (R174), EVENT_MASK (R173), DEMAND with
AGING from the soft age now live (R43), HOLD_SET (R45), REPORT as it stands and not as latched (R65), HEAT with the
temperature in sixteenths rounded down (R121), PLAN_STAGED with its mark before the part, and PLAN_LIVE with LIVE before the
part, zeros while the section is not live, and RAMP_STEP after E.MAIN and T.MAIN (R130). The order of the fields is that
of their chapters (R166, assumption 12). GRANT is said by `GrantRecordsAreLaidOut`, and the bytes of a part by
`StagedWriteReplacesThePart` with `StagedPartReadsBackAsWritten`. -/
def Obligations.RecordsHaveTheirLengths : Prop :=
  (∀ (s : State) (p : Port) (cls index : Nat),
    let part := fun x : PlanCopy =>
      [5, 1 + 4 * x.e.curve.length, 11, 1 + 4 * x.t.curve.length, 10, 10, 10, 10, 1 + 3 * x.b.fade.length, 24,
        10].getD index 0
    let step := if index = 0 ∨ index = 2 then 2 else 0
    let length : Nat := match cls with
      | 1 => 6
      | 2 => 9
      | 3 => 16
      | 4 => 2
      | 5 => 4
      | 6 => 3
      | 7 => [8, 11, 22, 6].getD index 0
      | 8 => [14, 14, 14, 14, 14, 34].getD index 0
      | 9 => 4
      | 10 => 1 + part s.plan.stagedCopy
      | 11 => 1 + part s.plan.liveShown + step
      | _ => 0
    (∀ record, readRecord s p cls index = some record → record.length = length) ∧
    ((readRecord s p cls index).isSome = true ↔
      1 ≤ cls ∧ cls ≤ 11 ∧ index ≤ [0, 0, 3, 3, 3, 2, 0, 3, 5, 2, 10, 10].getD cls 0)) ∧
  ∀ (s : State) (p : Port),
    let one := fun n : Nat => ([BitVec.ofNat 8 n] : List Byte)
    let two := fun n : Nat => ([BitVec.ofNat 8 (n / 256), BitVec.ofNat 8 n] : List Byte)
    let signed := fun v : Int => two (BitVec.ofInt 16 v).toNat
    let flag := fun b : Bool => one b.toNat
    let codes : List ResultCode := [.none, .ok, .seedPartial, .framing, .wait, .unterminated, .overrun, .unknown,
      .length, .owner, .pending, .invalid, .range, .state]
    let entry := fun x : Option DemandEntry => match x with
      | none => one 0 ++ one 0 ++ two 0
      | some y =>
        one (if (match s.plan.c.live with | none => 3 | some c => c.softAge) ≤ y.age then 2 else 1) ++ one y.age ++
          two y.value
    let stands := fun x : ReportState => one (match x with | .absent => 0 | .fresh => 1 | .aging => 2 | .expired => 3)
    let torque := fun x : Option Int => flag x.isSome ++ signed (x.getD 0)
    let axle := fun x : AxleReport =>
      two x.pmax ++ flag x.achieved.isSome ++ two (x.achieved.getD 0) ++ flag x.slip
    let e := s.reports.exhaust
    let t := s.reports.trans
    let a := s.reports.axles
    let v := s.reports.vehicle
    let step := fun index : Nat =>
      if index = 0 then two (s.plan.stepE.getD 0) else if index = 2 then two (s.plan.stepT.getD 0) else []
    let live : PlanCopy := {
      e := s.plan.e.live.getD PlanE.zero, t := s.plan.t.live.getD PlanT.zero, b := s.plan.b.live.getD PlanB.zero,
      c := s.plan.c.live.getD PlanC.zero }
    let shows := fun index (marked isLive : Bool) =>
      readRecord s p 10 index = some (flag marked ++ sendPart s.plan.stagedCopy index) ∧
      readRecord s p 11 index = some (flag isLive ++ sendPart live index ++ step index) ∧
      (isLive = false → ∃ n, sendPart live index = List.replicate n 0)
    let number := fun q : Port => match q with | .e => 0 | .t => 1 | .b => 2 | .c => 3
    let kinds : List EventKind := [.refresh, .expired, .novalue, .shortfall, .shiftLong, .slipCut, .heatState, .heatSat,
      .planApplied, .syncLost, .syncEarly, .stateChange, .massClamp, .holdDropped, .published, .seedWanted]
    readRecord s p 1 0 = some ([0x2E#8, 0x41#8, 0x03#8, 0x30#8, 1#8] ++ one (number p)) ∧
    (∀ q,
      let x := s.port q
      let u := s.events.get q
      readRecord s p 2 (number q) = some (flag x.status ++ one x.errors ++ one x.last.command ++ one x.last.cls ++
        one x.last.index ++ one (codes.idxOf x.last.code) ++ one x.last.detail1 ++ one x.last.detail2 ++
        one x.last.detail3) ∧
      readRecord s p 3 (number q) = some (kinds.map fun k => BitVec.ofNat 8 (u.counts.get k)) ∧
      readRecord s p 4 (number q) = some [u.mask.extractLsb' 8 8, u.mask.extractLsb' 0 8]) ∧
    readRecord s p 5 0 = some (entry s.demand.pedal) ∧ readRecord s p 5 1 = some (entry s.demand.stalk) ∧
    readRecord s p 5 2 = some (one s.demand.hold.isSome.toNat ++ one 0 ++ two (s.demand.hold.getD 0)) ∧
    readRecord s p 6 0 = some (flag s.demand.holdEnabled ++ two s.demand.setSpeed) ∧
    readRecord s p 7 0 = some (stands e.state ++ one e.age ++ two e.fields.rpm ++ one e.fields.avail ++
      torque e.fields.achieved) ∧
    readRecord s p 7 1 = some (stands t.state ++ one t.age ++ two t.fields.rpm ++ one t.fields.avail ++
      torque t.fields.achieved ++ two t.fields.gear ++ flag t.fields.shifting) ∧
    readRecord s p 7 2 = some (stands a.state ++ one a.age ++ two a.fields.speed ++ axle a.fields.axle.front ++
      axle a.fields.axle.drive ++ axle a.fields.axle.tag) ∧
    readRecord s p 7 3 = some (one v.written.toNat ++ one 0 ++ two v.mass ++ signed v.ambient) ∧
    (∀ i : Axle,
      let x := s.heat.accounts.get i
      readRecord s p 9 (match i with | .front => 0 | .drive => 1 | .tag => 2) = some (signed (x.temp / 4096) ++
        one (match x.state with | .cool => 0 | .warm => 1 | .hot => 2 | .fade => 3) ++ flag x.seeded)) ∧
    (∀ index, index ≤ 1 → shows index s.plan.e.pending s.plan.e.live.isSome) ∧
    (∀ index, 2 ≤ index → index ≤ 3 → shows index s.plan.t.pending s.plan.t.live.isSome) ∧
    (∀ index, 4 ≤ index → index ≤ 8 → shows index s.plan.b.pending s.plan.b.live.isSome) ∧
    ∀ index, 9 ≤ index → index ≤ 10 → shows index s.plan.c.pending s.plan.c.live.isSome

/-- A GRANT record lies in its bytes as R168 has it. Actuator records: PERIOD_INDEX, VALID, GRANT_N from byte 3, the unit
grant from byte 7, CAPACITY_N from byte 9 and the flags byte 13, bit 7 RAMPED down to bit 0 FROZEN. The summary: STATE,
then D, D_SVC, E_CAP, X_E, X_R, S and SHORTFALL of four bytes each, then HOLD_VALUE. -/
def Obligations.GrantRecordsAreLaidOut : Prop :=
  ∀ (g : GrantSet) (index : Nat), g.periodIndex < 65536 →
    let record := sendGrant g index
    let byte := fun i => (record.getD i 0).toNat
    let word := fun i => byte i * 256 + byte (i + 1)
    let long := fun i => word i * 65536 + word (i + 2)
    word 0 = g.periodIndex ∧ byte 2 = g.valid.toNat ∧
    (∀ a, [g.exhaust, g.retarder, g.service.front, g.service.drive, g.service.tag][index]? = some a →
      a.grantN < 2 ^ 32 → a.units < 65536 → a.capacity < 2 ^ 32 →
      record.length = 14 ∧ long 3 = a.grantN ∧ word 7 = a.units ∧ long 9 = a.capacity ∧
      byte 13 = 128 * a.flags.ramped.toNat + 64 * a.flags.capped.toNat + 32 * a.flags.slipCut.toNat +
        16 * a.flags.shiftGap.toNat + 8 * a.flags.aging.toNat + 4 * a.flags.expired.toNat +
        2 * a.flags.novalue.toNat + a.flags.frozen.toNat) ∧
    (index = 5 → g.summary.d < 2 ^ 32 → g.summary.dSvc < 2 ^ 32 → g.summary.eCap < 2 ^ 32 →
      g.summary.xE < 2 ^ 32 → g.summary.xR < 2 ^ 32 → g.summary.s < 2 ^ 32 → g.summary.shortfall < 2 ^ 32 →
      g.summary.holdValue < 65536 →
      record.length = 34 ∧
      byte 3 = (match g.summary.state with | .unplanned => 0 | .running => 1 | .fallback => 2) ∧
      long 4 = g.summary.d ∧ long 8 = g.summary.dSvc ∧ long 12 = g.summary.eCap ∧ long 16 = g.summary.xE ∧
      long 20 = g.summary.xR ∧ long 24 = g.summary.s ∧ long 28 = g.summary.shortfall ∧
      word 32 = g.summary.holdValue)

/-- The checks of a COMMIT accept exactly the sections whose fields lie in their ranges (R132), whose curves have x strictly
ascending and, for the fade curve, percentages that do not rise (R133), and whose fields agree with each other (R134). A
section that fails is reported by the first failing check in the order of R135, with the check's code, the part and the item:
the parts in index order, within a part its fields in field order, a curve's COUNT before its points, each x before its y,
then the part's own checks, and SHARE_SUM after all parts of section B. -/
def Obligations.CommitAcceptsExactlyTheRanges : Prop :=
  let curveIn := fun (points : List Point) (xlo xhi yhi : Int) =>
    2 ≤ points.length ∧ points.length ≤ 8 ∧
    (∀ q ∈ points, xlo ≤ q.x ∧ q.x ≤ xhi ∧ 0 ≤ q.y ∧ q.y ≤ yhi) ∧ points.Pairwise (fun q r => q.x < r.x)
  (∀ x : PlanE, checkE x = firstFailing (
    fieldChecks 0 [(1000, 400000, x.rampRate), (0, 3, x.rounding)] ++ curveChecks 1 0 4000 32767 x.curve)) ∧
  (∀ x : PlanT, checkT x = firstFailing (
    fieldChecks 2 [(1000, 400000, x.rampRate), (256, 4096, x.axleRatio), (350, 650, x.radius), (200, 3000, x.shiftMax),
      (0, 3, x.rounding)] ++ curveChecks 3 0 6000 32767 x.curve)) ∧
  (∀ x : PlanB,
    let axle := fun part (a : AxlePlan) =>
      fieldChecks part [(1, 400, a.gain), (0, 1000, a.baseShare), (5000, 200000, a.cTh), (1, 500, a.lambda)]
    checkB x = firstFailing (
      fieldChecks 4 [(50, 850, x.warmOn), (50, 850, x.hotOn), (50, 850, x.fadeOn), (5, 50, x.hyst),
        (0, 2000, x.slipHold), (0, 3, x.rounding)] ++
      [({ code := 7, part := 4, item := 2 }, decide (x.warmOn < x.hotOn)),
        ({ code := 7, part := 4, item := 3 }, decide (x.hotOn < x.fadeOn))] ++
      axle 5 x.axles.front ++ axle 6 x.axles.drive ++ axle 7 x.axles.tag ++ curveChecks 8 (-40) 900 100 x.fade ++
      neighbourChecks 6 8 (fun q r => decide (r.y ≤ q.y)) x.fade ++
      [({ code := 8, part := 5, item := 0 },
        decide (x.axles.front.baseShare + x.axles.drive.baseShare + x.axles.tag.baseShare = 1000))])) ∧
  (∀ x : PlanC, checkC x = firstFailing (
    fieldChecks 9 [(10, 50, x.p), (2, 48, x.q), (0, 1, x.syncMode), (0, 1, x.order), (1, 20, x.softAge),
      (2, 60, x.hardAge), (200, 700, x.driveShare), (50, 800, x.mu), (5000, 32000, x.nominalMass), (0, 200, x.kp),
      (0, 200, x.ki), (0, 4000, x.holdMax), (0, 400000, x.shortThreshold), (1, 50, x.shortCount),
      (0, 1600, x.fallbackSpeed), (0, 3, x.rounding)] ++
    [({ code := 9, part := 9, item := 2 }, decide (x.q + 2 ≤ x.p)),
      ({ code := 10, part := 9, item := 6 }, decide (x.softAge < x.hardAge))] ++
    fieldChecks 10 [(0, 4000, x.stalk.stage1), (0, 4000, x.stalk.stage2), (0, 4000, x.stalk.stage3),
      (0, 4000, x.stalk.stage4), (0, 4000, x.stalk.stage5)] ++
    [({ code := 11, part := 10, item := 2 }, decide (x.stalk.stage1 ≤ x.stalk.stage2)),
      ({ code := 11, part := 10, item := 3 }, decide (x.stalk.stage2 ≤ x.stalk.stage3)),
      ({ code := 11, part := 10, item := 4 }, decide (x.stalk.stage3 ≤ x.stalk.stage4)),
      ({ code := 11, part := 10, item := 5 }, decide (x.stalk.stage4 ≤ x.stalk.stage5))])) ∧
  (∀ x : PlanE, checkE x = none ↔
    1000 ≤ x.rampRate ∧ x.rampRate ≤ 400000 ∧ x.rounding ≤ 3 ∧ curveIn x.curve 0 4000 32767) ∧
  (∀ x : PlanT, checkT x = none ↔
    1000 ≤ x.rampRate ∧ x.rampRate ≤ 400000 ∧ 256 ≤ x.axleRatio ∧ x.axleRatio ≤ 4096 ∧ 350 ≤ x.radius ∧
    x.radius ≤ 650 ∧ 200 ≤ x.shiftMax ∧ x.shiftMax ≤ 3000 ∧ x.rounding ≤ 3 ∧ curveIn x.curve 0 6000 32767) ∧
  (∀ x : PlanB, checkB x = none ↔
    50 ≤ x.warmOn ∧ x.warmOn < x.hotOn ∧ x.hotOn < x.fadeOn ∧ x.fadeOn ≤ 850 ∧ 5 ≤ x.hyst ∧ x.hyst ≤ 50 ∧
    x.slipHold ≤ 2000 ∧ x.rounding ≤ 3 ∧
    (∀ i, 1 ≤ (x.axles.get i).gain ∧ (x.axles.get i).gain ≤ 400 ∧ (x.axles.get i).baseShare ≤ 1000 ∧
      5000 ≤ (x.axles.get i).cTh ∧ (x.axles.get i).cTh ≤ 200000 ∧ 1 ≤ (x.axles.get i).lambda ∧
      (x.axles.get i).lambda ≤ 500) ∧
    x.axles.front.baseShare + x.axles.drive.baseShare + x.axles.tag.baseShare = 1000 ∧
    curveIn x.fade (-40) 900 100 ∧ x.fade.Pairwise (fun q r => r.y ≤ q.y)) ∧
  ∀ x : PlanC, checkC x = none ↔
    10 ≤ x.p ∧ x.p ≤ 50 ∧ 2 ≤ x.q ∧ x.q + 2 ≤ x.p ∧ x.syncMode ≤ 1 ∧ x.order ≤ 1 ∧ 1 ≤ x.softAge ∧
    x.softAge ≤ 20 ∧ x.softAge < x.hardAge ∧ x.hardAge ≤ 60 ∧ 200 ≤ x.driveShare ∧ x.driveShare ≤ 700 ∧
    50 ≤ x.mu ∧ x.mu ≤ 800 ∧ 5000 ≤ x.nominalMass ∧ x.nominalMass ≤ 32000 ∧ x.kp ≤ 200 ∧ x.ki ≤ 200 ∧
    x.holdMax ≤ 4000 ∧ x.shortThreshold ≤ 400000 ∧ 1 ≤ x.shortCount ∧ x.shortCount ≤ 50 ∧
    x.fallbackSpeed ≤ 1600 ∧ x.rounding ≤ 3 ∧ x.stalk.stage1 ≤ x.stalk.stage2 ∧ x.stalk.stage2 ≤ x.stalk.stage3 ∧
    x.stalk.stage3 ≤ x.stalk.stage4 ∧ x.stalk.stage4 ≤ x.stalk.stage5 ∧ x.stalk.stage5 ≤ 4000

/-! ### Invariants that every step keeps -/

/-- Every event count stays within 0..255 (R171), every port's error count too (R162), and no port stores more than 33 data
bytes (R154). -/
def Obligations.CountsStayInRange : Prop :=
  (∀ s t : State, CountsInRange s → step s = .next t → CountsInRange t) ∧
  (∀ s t : State, ErrorsInRange s → step s = .next t → ErrorsInRange t) ∧
  ∀ s t : State, DataInRange s → step s = .next t → DataInRange t

/-- Every heat account's temperature stays within -40 and 900 degrees C (R115), with the ambient that bounds its cooling
within -40 and 60 (R61, R114). -/
def Obligations.TemperaturesStayInRange : Prop :=
  ∀ s t : State, HeatInRange s → step s = .next t → HeatInRange t

/-- Every live plan section satisfies all of its commit checks (R137), and a section pending is the content that passed
them (R136). -/
def Obligations.LivePlanStaysChecked : Prop :=
  ∀ s t : State, PlanChecked s → step s = .next t → PlanChecked t

/-- The timer stays in the ranges of R1, between the entry and the end of its phase (R2), and the elapsed time within 20 and
625 (R8), while the plan in use satisfies its checks. -/
def Obligations.TimerStaysInRange : Prop :=
  ∀ s t : State, TimerInRange s.timer → PlanChecked s → step s = .next t → TimerInRange t.timer

/-- A computation is in flight in GUARD, unless RESTART has abandoned it, and in OPEN, and at no other time (R2, R17); and
the published set carries the timer's period index (R9, R102), which RESTART keeps (R106). -/
def Obligations.PendingSetMatchesThePhase : Prop :=
  (∀ s t : State, PendingMatchesPhase s → step s = .next t → PendingMatchesPhase t) ∧
  ∀ s t : State, PendingMatchesPhase s → IndexMatches s → step s = .next t → IndexMatches t

/-- The speed-hold integrator stays within 0 and HOLD_MAX x 1024 of the live section C (R50); the age of an entry or a
report stays within 60, the greatest hard age (R37, R60), while the plan in use satisfies its checks. -/
def Obligations.IntegratorAndAgesStayInRange : Prop :=
  (∀ s t : State, IntegratorInRange s → step s = .next t → IntegratorInRange t) ∧
  ∀ s t : State, AgesInRange s → PlanChecked s → step s = .next t → AgesInRange t

/-- In every set, pending or published, the endurance grants sum to at most the least of D and E_CAP, the drive axle's
friction keeps within what E_CAP leaves, the expected forces, the service grants and SHORTFALL make up D (R96), and a grant
is within its capacity but for a FROZEN axle's (R99). With VALID clear every grant is 0, and in UNPLANNED VALID is clear and
every published grant is 0 (R103, R106), a planned engine having four live sections and a pending set the engine's state
(R143, R144). -/
def Obligations.GrantSetsStayBalanced : Prop :=
  (∀ s t : State, SetsBalanced s → step s = .next t → SetsBalanced t) ∧
  (∀ s t : State, InvalidSetsAreZero s → step s = .next t → InvalidSetsAreZero t) ∧
  ∀ s t : State, UnplannedIsInvalid s → step s = .next t → UnplannedIsInvalid t

/-- The ramp (R87): the previous endurance grants are those of the published set, a pending set exceeds them by at most one
ramp step each, and so a step never raises a published endurance grant by more than one ramp step. -/
def Obligations.EnduranceGrantsRiseByAStep : Prop :=
  (∀ s t : State, RampBounded s → step s = .next t → RampBounded t) ∧
  ∀ s t : State, RampBounded s → step s = .next t →
    t.app.published.exhaust.grantN ≤ s.app.published.exhaust.grantN + s.plan.stepE.getD 0 ∧
    t.app.published.retarder.grantN ≤ s.app.published.retarder.grantN + s.plan.stepT.getD 0

/-- What only DEVICE_RESET takes back: every other command leaves a live section live (R137, R142), a ramp step in place
(R138), a seeded account seeded (R122) and RESET released. No command but an ACK lowers a count (R175), none but a write of
EVENT_MASK changes a mask (R173), and the period index stays or rises by one modulo 65536 (R9). -/
def Obligations.OnlyDeviceResetForgets : Prop :=
  ∀ (c : Instr) (s t : State), c ≠ .deviceReset → exec c s = .next t →
    (s.plan.e.live.isSome = true → t.plan.e.live.isSome = true) ∧
    (s.plan.t.live.isSome = true → t.plan.t.live.isSome = true) ∧
    (s.plan.b.live.isSome = true → t.plan.b.live.isSome = true) ∧
    (s.plan.c.live.isSome = true → t.plan.c.live.isSome = true) ∧
    (s.plan.stepE.isSome = true → t.plan.stepE.isSome = true) ∧
    (s.plan.stepT.isSome = true → t.plan.stepT.isSome = true) ∧
    (∀ i, (s.heat.accounts.get i).seeded = true → (t.heat.accounts.get i).seeded = true) ∧
    (s.resetHeld = false → t.resetHeld = false) ∧
    (CountsInRange s → (∀ p stray, c ≠ .ack p stray) →
      ∀ p k, (s.events.get p).counts.get k ≤ (t.events.get p).counts.get k) ∧
    ((∀ p stray, c ≠ .writeEventMask p stray) → ∀ p, (t.events.get p).mask = (s.events.get p).mask) ∧
    (t.timer.index = s.timer.index ∨ t.timer.index = (s.timer.index + 1) % 65536)

/-- The state at reset release meets every invariant above. -/
def Obligations.ResetMeetsEveryInvariant : Prop :=
  CountsInRange State.reset ∧ ErrorsInRange State.reset ∧ DataInRange State.reset ∧ HeatInRange State.reset ∧
  PlanChecked State.reset ∧ TimerInRange State.reset.timer ∧ PendingMatchesPhase State.reset ∧
  IndexMatches State.reset ∧ IntegratorInRange State.reset ∧ AgesInRange State.reset ∧ SetsBalanced State.reset ∧
  InvalidSetsAreZero State.reset ∧ UnplannedIsInvalid State.reset ∧ RampBounded State.reset
end

