-- ==== Sys2Proof/Laws/State.lean ====
section
/-! SUPPORT. The small lemmas of the state: what each update leaves of each field. Proofs rewrite with these and do not
unfold a record update. -/

namespace Sys2Proof.Machine

open Sys2Proof

/-! ### One value for each port, one for each axle -/

@[simp] theorem PerPort.get_set_same {α : Type} (x : PerPort α) (p : Port) (v : α) : (x.set p v).get p = v := by
  cases p <;> rfl

theorem PerPort.get_set_other {α : Type} (x : PerPort α) {p q : Port} (v : α) (h : q ≠ p) :
    (x.set p v).get q = x.get q := by
  cases p <;> cases q <;> first | rfl | exact absurd rfl h

theorem PerPort.get_set {α : Type} (x : PerPort α) (p q : Port) (v : α) :
    (x.set p v).get q = if q = p then v else x.get q := by
  cases p <;> cases q <;> rfl

@[simp] theorem PerPort.set_set {α : Type} (x : PerPort α) (p : Port) (v w : α) : (x.set p v).set p w = x.set p w := by
  cases p <;> rfl

@[simp] theorem PerPort.get_map {α β : Type} (f : Port → α → β) (x : PerPort α) (p : Port) :
    (x.map f).get p = f p (x.get p) := by
  cases p <;> rfl

@[simp] theorem PerAxle.get_map {α β : Type} (f : Axle → α → β) (x : PerAxle α) (i : Axle) :
    (x.map f).get i = f i (x.get i) := by
  cases i <;> rfl

@[simp] theorem PerAxle.get_build {α : Type} (f : Axle → α) (i : Axle) : (PerAxle.build f).get i = f i := by
  cases i <;> rfl

@[simp] theorem EventCounts.get_map (f : EventKind → Nat → Nat) (c : EventCounts) (k : EventKind) :
    (c.map f).get k = f k (c.get k) := by
  cases k <;> rfl

/-! ### Replacing a port controller -/

section SetPort

variable (s : State) (p : Port) (v : PortControl)

@[simp] theorem State.setPort_resetHeld : (s.setPort p v).resetHeld = s.resetHeld := rfl
@[simp] theorem State.setPort_timer : (s.setPort p v).timer = s.timer := rfl
@[simp] theorem State.setPort_plan : (s.setPort p v).plan = s.plan := rfl
@[simp] theorem State.setPort_reports : (s.setPort p v).reports = s.reports := rfl
@[simp] theorem State.setPort_latched : (s.setPort p v).latched = s.latched := rfl
@[simp] theorem State.setPort_demand : (s.setPort p v).demand = s.demand := rfl
@[simp] theorem State.setPort_heat : (s.setPort p v).heat = s.heat := rfl
@[simp] theorem State.setPort_cap : (s.setPort p v).cap = s.cap := rfl
@[simp] theorem State.setPort_app : (s.setPort p v).app = s.app := rfl
@[simp] theorem State.setPort_events : (s.setPort p v).events = s.events := rfl
@[simp] theorem State.setPort_tieDraws : (s.setPort p v).tieDraws = s.tieDraws := rfl
@[simp] theorem State.setPort_pending : (s.setPort p v).pending = s.pending := rfl
@[simp] theorem State.setPort_ports : (s.setPort p v).ports = s.ports.set p v := rfl
@[simp] theorem State.port_setPort_same : (s.setPort p v).port p = v := PerPort.get_set_same _ _ _

theorem State.port_setPort_other {q : Port} (h : q ≠ p) : (s.setPort p v).port q = s.port q :=
  PerPort.get_set_other _ _ h

end SetPort

/-! ### Postings -/

section Post

variable (k : EventKind) (ps : List Port) (s : State) (cond : Bool)

@[simp] theorem State.post_resetHeld : (s.post k ps).resetHeld = s.resetHeld := rfl
@[simp] theorem State.post_timer : (s.post k ps).timer = s.timer := rfl
@[simp] theorem State.post_plan : (s.post k ps).plan = s.plan := rfl
@[simp] theorem State.post_reports : (s.post k ps).reports = s.reports := rfl
@[simp] theorem State.post_latched : (s.post k ps).latched = s.latched := rfl
@[simp] theorem State.post_demand : (s.post k ps).demand = s.demand := rfl
@[simp] theorem State.post_heat : (s.post k ps).heat = s.heat := rfl
@[simp] theorem State.post_cap : (s.post k ps).cap = s.cap := rfl
@[simp] theorem State.post_app : (s.post k ps).app = s.app := rfl
@[simp] theorem State.post_ports : (s.post k ps).ports = s.ports := rfl
@[simp] theorem State.post_tieDraws : (s.post k ps).tieDraws = s.tieDraws := rfl
@[simp] theorem State.post_pending : (s.post k ps).pending = s.pending := rfl

@[simp] theorem State.postIf_resetHeld : (s.postIf cond k ps).resetHeld = s.resetHeld := by cases cond <;> rfl
@[simp] theorem State.postIf_timer : (s.postIf cond k ps).timer = s.timer := by cases cond <;> rfl
@[simp] theorem State.postIf_plan : (s.postIf cond k ps).plan = s.plan := by cases cond <;> rfl
@[simp] theorem State.postIf_reports : (s.postIf cond k ps).reports = s.reports := by cases cond <;> rfl
@[simp] theorem State.postIf_latched : (s.postIf cond k ps).latched = s.latched := by cases cond <;> rfl
@[simp] theorem State.postIf_demand : (s.postIf cond k ps).demand = s.demand := by cases cond <;> rfl
@[simp] theorem State.postIf_heat : (s.postIf cond k ps).heat = s.heat := by cases cond <;> rfl
@[simp] theorem State.postIf_cap : (s.postIf cond k ps).cap = s.cap := by cases cond <;> rfl
@[simp] theorem State.postIf_app : (s.postIf cond k ps).app = s.app := by cases cond <;> rfl
@[simp] theorem State.postIf_ports : (s.postIf cond k ps).ports = s.ports := by cases cond <;> rfl
@[simp] theorem State.postIf_tieDraws : (s.postIf cond k ps).tieDraws = s.tieDraws := by cases cond <;> rfl
@[simp] theorem State.postIf_pending : (s.postIf cond k ps).pending = s.pending := by cases cond <;> rfl

end Post

/-! ### A port controller at the release of select -/

section Release

variable (x : PortControl) (code : ResultCode) (d1 d2 d3 : Nat)

@[simp] theorem PortControl.released_status : x.released.status = x.status := rfl
@[simp] theorem PortControl.released_errors : x.released.errors = x.errors := rfl
@[simp] theorem PortControl.released_last : x.released.last = x.last := rfl
@[simp] theorem PortControl.released_phase : x.released.phase = .idle := rfl
@[simp] theorem PortControl.failed_status : (x.failed code d1 d2 d3).status = false := rfl
@[simp] theorem PortControl.failed_errors : (x.failed code d1 d2 d3).errors = min 255 (x.errors + 1) := rfl
@[simp] theorem PortControl.failed_phase : (x.failed code d1 d2 d3).phase = .idle := rfl
@[simp] theorem PortControl.failed_last : (x.failed code d1 d2 d3).last = resultOf x.xch code d1 d2 d3 := rfl
@[simp] theorem PortControl.passed_status : (x.passed code d1).status = true := rfl
@[simp] theorem PortControl.passed_errors : (x.passed code d1).errors = x.errors := rfl
@[simp] theorem PortControl.passed_phase : (x.passed code d1).phase = .idle := rfl
@[simp] theorem PortControl.passed_last : (x.passed code d1).last = resultOf x.xch code d1 0 0 := rfl

end Release

end Sys2Proof.Machine
end

