-- ==== Sys2Proof/Laws/Events.lean ====
section
/-! SUPPORT. What a posting and an ACK do to a count and to a mask. -/

namespace Sys2Proof.Machine

open Sys2Proof

theorem bump_le_255 (n : Nat) : bump n ≤ 255 := Nat.min_le_left _ _

/-- A posting raises one kind's count at the ports named, and nothing else. -/
theorem State.post_count (k k' : EventKind) (ps : List Port) (s : State) (p : Port) :
    ((s.post k ps).events.get p).counts.get k' =
      if p ∈ ps ∧ k' = k then bump ((s.events.get p).counts.get k') else (s.events.get p).counts.get k' := by
  by_cases hp : p ∈ ps <;> by_cases hk : k' = k <;> simp [State.post, EventUnit.post, hp, hk]

@[simp] theorem State.post_mask (k : EventKind) (ps : List Port) (s : State) (p : Port) :
    ((s.post k ps).events.get p).mask = (s.events.get p).mask := by
  by_cases hp : p ∈ ps <;> simp [State.post, EventUnit.post, hp]

/-- A conditional posting raises one kind's count at the ports named where its condition holds. -/
theorem State.postIf_count (cond : Bool) (k k' : EventKind) (ps : List Port) (s : State) (p : Port) :
    ((s.postIf cond k ps).events.get p).counts.get k' =
      if cond = true ∧ p ∈ ps ∧ k' = k then bump ((s.events.get p).counts.get k')
      else (s.events.get p).counts.get k' := by
  cases cond
  · simp [State.postIf]
  · simp [State.postIf, State.post_count]

@[simp] theorem State.postIf_mask (cond : Bool) (k : EventKind) (ps : List Port) (s : State) (p : Port) :
    ((s.postIf cond k ps).events.get p).mask = (s.events.get p).mask := by
  cases cond <;> simp [State.postIf]

/-- A posting of another kind leaves a count as it was. -/
theorem State.postIf_count_other {k k' : EventKind} (cond : Bool) (ps : List Port) (s : State) (p : Port)
    (h : k' ≠ k) :
    ((s.postIf cond k ps).events.get p).counts.get k' = (s.events.get p).counts.get k' := by
  simp [State.postIf_count, h]

/-- An ACK lowers each count by its echo. -/
@[simp] theorem EventUnit.acknowledge_count (echo : EventKind → Nat) (u : EventUnit) (k : EventKind) :
    (u.acknowledge echo).counts.get k = u.counts.get k - echo k := by
  simp [EventUnit.acknowledge]

@[simp] theorem EventUnit.acknowledge_mask (echo : EventKind → Nat) (u : EventUnit) :
    (u.acknowledge echo).mask = u.mask := rfl

end Sys2Proof.Machine
end

