-- ==== Sys2Proof/Laws/Boundary.lean ====
section
/-! SUPPORT. The stages of a boundary, one by one: what each leaves as it was, what it may post, and what it makes of the
part of the state that it owns. -/

namespace Sys2Proof.Machine

open Sys2Proof

/-! ### Postings of some kinds -/

/-- The event units `f` come from `e` by postings of the kinds listed. -/
inductive Postings (ks : List EventKind) (e : PerPort EventUnit) : PerPort EventUnit → Prop
  | none : Postings ks e e
  | more {f : PerPort EventUnit} (k : EventKind) (ps : List Port) (hk : k ∈ ks) (h : Postings ks e f) :
      Postings ks e (f.map (fun p u => if p ∈ ps then u.post k else u))

namespace Postings

variable {ks : List EventKind} {e f : PerPort EventUnit}

theorem post {s : State} {k : EventKind} (ps : List Port) (hk : k ∈ ks) (h : Postings ks e s.events) :
    Postings ks e (s.post k ps).events :=
  .more k ps hk h

theorem postIf {s : State} {k : EventKind} (cond : Bool) (ps : List Port) (hk : k ∈ ks)
    (h : Postings ks e s.events) : Postings ks e (s.postIf cond k ps).events := by
  cases cond
  · exact h
  · exact post ps hk h

theorem trans {g : PerPort EventUnit} (h1 : Postings ks e f) (h2 : Postings ks f g) : Postings ks e g := by
  induction h2 with
  | none => exact h1
  | more k ps hk _ ih => exact .more k ps hk ih

theorem weaken {ks' : List EventKind} (h : Postings ks e f) (hsub : ∀ k, k ∈ ks → k ∈ ks') : Postings ks' e f := by
  induction h with
  | none => exact .none
  | more k ps hk _ ih => exact .more k ps (hsub k hk) ih

/-- Postings leave every mask. -/
theorem mask (h : Postings ks e f) (p : Port) : (f.get p).mask = (e.get p).mask := by
  induction h with
  | none => rfl
  | more k ps _ _ ih => rw [← ih]; by_cases hp : p ∈ ps <;> simp [EventUnit.post, hp]

/-- Postings leave the counts of other kinds. -/
theorem count_other (h : Postings ks e f) (p : Port) {k : EventKind} (hk : k ∉ ks) :
    (f.get p).counts.get k = (e.get p).counts.get k := by
  induction h with
  | none => rfl
  | more k' ps hk' _ ih =>
    have hne : k ≠ k' := fun heq => hk (heq ▸ hk')
    rw [← ih]
    by_cases hp : p ∈ ps <;> simp [EventUnit.post, hp, hne]

/-- Postings keep counts within 255. -/
theorem count_le (h : Postings ks e f) (p : Port) (k : EventKind) (he : (e.get p).counts.get k ≤ 255) :
    (f.get p).counts.get k ≤ 255 := by
  induction h with
  | none => exact he
  | more k' ps _ _ ih =>
    by_cases hp : p ∈ ps <;> by_cases hk : k = k' <;> simp [EventUnit.post, hp, hk, bump_le_255] <;>
      first | exact ih | exact hk ▸ ih

end Postings

/-! ### What the evaluator's postings leave -/

section Evaluator

variable (live : PlanCopy) (s : State)

@[simp] theorem postLanes_resetHeld : (postLanes live s).resetHeld = s.resetHeld := by simp [postLanes]
@[simp] theorem postLanes_timer : (postLanes live s).timer = s.timer := by simp [postLanes]
@[simp] theorem postLanes_plan : (postLanes live s).plan = s.plan := by simp [postLanes]
@[simp] theorem postLanes_reports : (postLanes live s).reports = s.reports := by simp [postLanes]
@[simp] theorem postLanes_latched : (postLanes live s).latched = s.latched := by simp [postLanes]
@[simp] theorem postLanes_demand : (postLanes live s).demand = s.demand := by simp [postLanes]
@[simp] theorem postLanes_heat : (postLanes live s).heat = s.heat := by simp [postLanes]
@[simp] theorem postLanes_cap : (postLanes live s).cap = s.cap := by simp [postLanes]
@[simp] theorem postLanes_app : (postLanes live s).app = s.app := by simp [postLanes]
@[simp] theorem postLanes_ports : (postLanes live s).ports = s.ports := by simp [postLanes]
@[simp] theorem postLanes_tieDraws : (postLanes live s).tieDraws = s.tieDraws := by simp [postLanes]
@[simp] theorem postLanes_pending : (postLanes live s).pending = s.pending := by simp [postLanes]

@[simp] theorem shiftSlipStep_resetHeld : (shiftSlipStep live s).resetHeld = s.resetHeld := by simp [shiftSlipStep]
@[simp] theorem shiftSlipStep_timer : (shiftSlipStep live s).timer = s.timer := by simp [shiftSlipStep]
@[simp] theorem shiftSlipStep_plan : (shiftSlipStep live s).plan = s.plan := by simp [shiftSlipStep]
@[simp] theorem shiftSlipStep_reports : (shiftSlipStep live s).reports = s.reports := by simp [shiftSlipStep]
@[simp] theorem shiftSlipStep_latched : (shiftSlipStep live s).latched = s.latched := by simp [shiftSlipStep]
@[simp] theorem shiftSlipStep_demand : (shiftSlipStep live s).demand = s.demand := by simp [shiftSlipStep]
@[simp] theorem shiftSlipStep_heat : (shiftSlipStep live s).heat = s.heat := by simp [shiftSlipStep]
@[simp] theorem shiftSlipStep_app : (shiftSlipStep live s).app = s.app := by simp [shiftSlipStep]
@[simp] theorem shiftSlipStep_ports : (shiftSlipStep live s).ports = s.ports := by simp [shiftSlipStep]
@[simp] theorem shiftSlipStep_tieDraws : (shiftSlipStep live s).tieDraws = s.tieDraws := by simp [shiftSlipStep]
@[simp] theorem shiftSlipStep_pending : (shiftSlipStep live s).pending = s.pending := by simp [shiftSlipStep]

@[simp] theorem shiftSlipStep_cap :
    (shiftSlipStep live s).cap = s.cap.next live.t live.b s.latched (s.timer.delta.getD 0) := by
  simp [shiftSlipStep]

end Evaluator

section Heat

variable (achieved : Option Force) (h : HeatStep) (s : State)

@[simp] theorem postHeat_resetHeld : (postHeat achieved h s).resetHeld = s.resetHeld := by simp [postHeat]
@[simp] theorem postHeat_timer : (postHeat achieved h s).timer = s.timer := by simp [postHeat]
@[simp] theorem postHeat_plan : (postHeat achieved h s).plan = s.plan := by simp [postHeat]
@[simp] theorem postHeat_reports : (postHeat achieved h s).reports = s.reports := by simp [postHeat]
@[simp] theorem postHeat_latched : (postHeat achieved h s).latched = s.latched := by simp [postHeat]
@[simp] theorem postHeat_demand : (postHeat achieved h s).demand = s.demand := by simp [postHeat]
@[simp] theorem postHeat_heat : (postHeat achieved h s).heat = s.heat := by simp [postHeat]
@[simp] theorem postHeat_cap : (postHeat achieved h s).cap = s.cap := by simp [postHeat]
@[simp] theorem postHeat_app : (postHeat achieved h s).app = s.app := by simp [postHeat]
@[simp] theorem postHeat_ports : (postHeat achieved h s).ports = s.ports := by simp [postHeat]
@[simp] theorem postHeat_tieDraws : (postHeat achieved h s).tieDraws = s.tieDraws := by simp [postHeat]
@[simp] theorem postHeat_pending : (postHeat achieved h s).pending = s.pending := by simp [postHeat]

end Heat

/-! ### What each stage leaves as it was -/

section Frames

variable (s : State)

/-! #### `stampBoundary`: the timer stamps the elapsed time and a pending set is discarded (R5, R105) -/

@[simp] theorem stampBoundary_resetHeld : (stampBoundary s).resetHeld = s.resetHeld := rfl
@[simp] theorem stampBoundary_plan : (stampBoundary s).plan = s.plan := rfl
@[simp] theorem stampBoundary_reports : (stampBoundary s).reports = s.reports := rfl
@[simp] theorem stampBoundary_latched : (stampBoundary s).latched = s.latched := rfl
@[simp] theorem stampBoundary_demand : (stampBoundary s).demand = s.demand := rfl
@[simp] theorem stampBoundary_heat : (stampBoundary s).heat = s.heat := rfl
@[simp] theorem stampBoundary_cap : (stampBoundary s).cap = s.cap := rfl
@[simp] theorem stampBoundary_ports : (stampBoundary s).ports = s.ports := rfl
@[simp] theorem stampBoundary_tieDraws : (stampBoundary s).tieDraws = s.tieDraws := rfl
@[simp] theorem stampBoundary_pending : (stampBoundary s).pending = s.pending := rfl
@[simp] theorem stampBoundary_app_published : (stampBoundary s).app.published = s.app.published := rfl
@[simp] theorem stampBoundary_app_prevE : (stampBoundary s).app.prevE = s.app.prevE := rfl
@[simp] theorem stampBoundary_app_prevR : (stampBoundary s).app.prevR = s.app.prevR := rfl
@[simp] theorem stampBoundary_app_runCount : (stampBoundary s).app.runCount = s.app.runCount := rfl
@[simp] theorem stampBoundary_app_runPosted : (stampBoundary s).app.runPosted = s.app.runPosted := rfl
@[simp] theorem stampBoundary_app_engine : (stampBoundary s).app.engine = s.app.engine := rfl

/-! #### `copyPlan`: the plan store copies what is pending (R137) -/

@[simp] theorem copyPlan_resetHeld : (copyPlan s).resetHeld = s.resetHeld := by simp [copyPlan]
@[simp] theorem copyPlan_timer : (copyPlan s).timer = s.timer := by simp [copyPlan]
@[simp] theorem copyPlan_reports : (copyPlan s).reports = s.reports := by simp [copyPlan]
@[simp] theorem copyPlan_latched : (copyPlan s).latched = s.latched := by simp [copyPlan]
@[simp] theorem copyPlan_demand : (copyPlan s).demand = s.demand := by simp [copyPlan]
@[simp] theorem copyPlan_heat : (copyPlan s).heat = s.heat := by simp [copyPlan]
@[simp] theorem copyPlan_cap : (copyPlan s).cap = s.cap := by simp [copyPlan]
@[simp] theorem copyPlan_app : (copyPlan s).app = s.app := by simp [copyPlan]
@[simp] theorem copyPlan_ports : (copyPlan s).ports = s.ports := by simp [copyPlan]
@[simp] theorem copyPlan_tieDraws : (copyPlan s).tieDraws = s.tieDraws := by simp [copyPlan]
@[simp] theorem copyPlan_pending : (copyPlan s).pending = s.pending := by simp [copyPlan]

/-! #### `takePeriod`: the timer takes the period's values (R3) -/

@[simp] theorem takePeriod_resetHeld : (takePeriod s).resetHeld = s.resetHeld := rfl
@[simp] theorem takePeriod_plan : (takePeriod s).plan = s.plan := rfl
@[simp] theorem takePeriod_reports : (takePeriod s).reports = s.reports := rfl
@[simp] theorem takePeriod_latched : (takePeriod s).latched = s.latched := rfl
@[simp] theorem takePeriod_demand : (takePeriod s).demand = s.demand := rfl
@[simp] theorem takePeriod_heat : (takePeriod s).heat = s.heat := rfl
@[simp] theorem takePeriod_cap : (takePeriod s).cap = s.cap := rfl
@[simp] theorem takePeriod_app : (takePeriod s).app = s.app := rfl
@[simp] theorem takePeriod_ports : (takePeriod s).ports = s.ports := rfl
@[simp] theorem takePeriod_tieDraws : (takePeriod s).tieDraws = s.tieDraws := rfl
@[simp] theorem takePeriod_pending : (takePeriod s).pending = s.pending := rfl

/-! #### `ageReports`: report intake ages and latches (R62, R63) -/

@[simp] theorem ageReports_resetHeld : (ageReports s).resetHeld = s.resetHeld := by simp [ageReports]
@[simp] theorem ageReports_timer : (ageReports s).timer = s.timer := by simp [ageReports]
@[simp] theorem ageReports_plan : (ageReports s).plan = s.plan := by simp [ageReports]
@[simp] theorem ageReports_demand : (ageReports s).demand = s.demand := by simp [ageReports]
@[simp] theorem ageReports_heat : (ageReports s).heat = s.heat := by simp [ageReports]
@[simp] theorem ageReports_cap : (ageReports s).cap = s.cap := by simp [ageReports]
@[simp] theorem ageReports_app : (ageReports s).app = s.app := by simp [ageReports]
@[simp] theorem ageReports_ports : (ageReports s).ports = s.ports := by simp [ageReports]
@[simp] theorem ageReports_tieDraws : (ageReports s).tieDraws = s.tieDraws := by simp [ageReports]
@[simp] theorem ageReports_pending : (ageReports s).pending = s.pending := by simp [ageReports]

/-! #### `ageDemand`: the demand entries are aged (R41) -/

@[simp] theorem ageDemand_resetHeld : (ageDemand s).resetHeld = s.resetHeld := by simp [ageDemand]
@[simp] theorem ageDemand_timer : (ageDemand s).timer = s.timer := by simp [ageDemand]
@[simp] theorem ageDemand_plan : (ageDemand s).plan = s.plan := by simp [ageDemand]
@[simp] theorem ageDemand_reports : (ageDemand s).reports = s.reports := by simp [ageDemand]
@[simp] theorem ageDemand_latched : (ageDemand s).latched = s.latched := by simp [ageDemand]
@[simp] theorem ageDemand_heat : (ageDemand s).heat = s.heat := by simp [ageDemand]
@[simp] theorem ageDemand_cap : (ageDemand s).cap = s.cap := by simp [ageDemand]
@[simp] theorem ageDemand_app : (ageDemand s).app = s.app := by simp [ageDemand]
@[simp] theorem ageDemand_ports : (ageDemand s).ports = s.ports := by simp [ageDemand]
@[simp] theorem ageDemand_tieDraws : (ageDemand s).tieDraws = s.tieDraws := by simp [ageDemand]
@[simp] theorem ageDemand_pending : (ageDemand s).pending = s.pending := by simp [ageDemand]

/-! #### `decideEngine`: the engine state is decided (R144) -/

@[simp] theorem decideEngine_resetHeld : (decideEngine s).resetHeld = s.resetHeld := by simp [decideEngine]
@[simp] theorem decideEngine_timer : (decideEngine s).timer = s.timer := by simp [decideEngine]
@[simp] theorem decideEngine_plan : (decideEngine s).plan = s.plan := by simp [decideEngine]
@[simp] theorem decideEngine_reports : (decideEngine s).reports = s.reports := by simp [decideEngine]
@[simp] theorem decideEngine_latched : (decideEngine s).latched = s.latched := by simp [decideEngine]
@[simp] theorem decideEngine_demand : (decideEngine s).demand = s.demand := by simp [decideEngine]
@[simp] theorem decideEngine_heat : (decideEngine s).heat = s.heat := by simp [decideEngine]
@[simp] theorem decideEngine_cap : (decideEngine s).cap = s.cap := by simp [decideEngine]
@[simp] theorem decideEngine_ports : (decideEngine s).ports = s.ports := by simp [decideEngine]
@[simp] theorem decideEngine_tieDraws : (decideEngine s).tieDraws = s.tieDraws := by simp [decideEngine]
@[simp] theorem decideEngine_pending : (decideEngine s).pending = s.pending := by simp [decideEngine]
@[simp] theorem decideEngine_app_published : (decideEngine s).app.published = s.app.published := by simp [decideEngine]
@[simp] theorem decideEngine_app_prevE : (decideEngine s).app.prevE = s.app.prevE := by simp [decideEngine]
@[simp] theorem decideEngine_app_prevR : (decideEngine s).app.prevR = s.app.prevR := by simp [decideEngine]
@[simp] theorem decideEngine_app_runCount : (decideEngine s).app.runCount = s.app.runCount := by simp [decideEngine]
@[simp] theorem decideEngine_app_runPosted : (decideEngine s).app.runPosted = s.app.runPosted := by simp [decideEngine]
@[simp] theorem decideEngine_app_pendingSet : (decideEngine s).app.pendingSet = s.app.pendingSet := by simp [decideEngine]

/-! #### `holdStep`: the resolver acts on HOLD_SET (R46, R57) -/

@[simp] theorem holdStep_resetHeld : (holdStep s).resetHeld = s.resetHeld := by unfold holdStep; split <;> (try split) <;> simp
@[simp] theorem holdStep_timer : (holdStep s).timer = s.timer := by unfold holdStep; split <;> (try split) <;> simp
@[simp] theorem holdStep_plan : (holdStep s).plan = s.plan := by unfold holdStep; split <;> (try split) <;> simp
@[simp] theorem holdStep_reports : (holdStep s).reports = s.reports := by unfold holdStep; split <;> (try split) <;> simp
@[simp] theorem holdStep_latched : (holdStep s).latched = s.latched := by unfold holdStep; split <;> (try split) <;> simp
@[simp] theorem holdStep_heat : (holdStep s).heat = s.heat := by unfold holdStep; split <;> (try split) <;> simp
@[simp] theorem holdStep_cap : (holdStep s).cap = s.cap := by unfold holdStep; split <;> (try split) <;> simp
@[simp] theorem holdStep_app : (holdStep s).app = s.app := by unfold holdStep; split <;> (try split) <;> simp
@[simp] theorem holdStep_ports : (holdStep s).ports = s.ports := by unfold holdStep; split <;> (try split) <;> simp
@[simp] theorem holdStep_tieDraws : (holdStep s).tieDraws = s.tieDraws := by unfold holdStep; split <;> (try split) <;> simp
@[simp] theorem holdStep_pending : (holdStep s).pending = s.pending := by unfold holdStep; split <;> (try split) <;> simp

/-! #### `heatStep`: the heat accounts are integrated and graded (R110) -/

@[simp] theorem heatStep_resetHeld : (heatStep s).resetHeld = s.resetHeld := by unfold heatStep; split <;> simp
@[simp] theorem heatStep_timer : (heatStep s).timer = s.timer := by unfold heatStep; split <;> simp
@[simp] theorem heatStep_plan : (heatStep s).plan = s.plan := by unfold heatStep; split <;> simp
@[simp] theorem heatStep_reports : (heatStep s).reports = s.reports := by unfold heatStep; split <;> simp
@[simp] theorem heatStep_latched : (heatStep s).latched = s.latched := by unfold heatStep; split <;> simp
@[simp] theorem heatStep_demand : (heatStep s).demand = s.demand := by unfold heatStep; split <;> simp
@[simp] theorem heatStep_cap : (heatStep s).cap = s.cap := by unfold heatStep; split <;> simp
@[simp] theorem heatStep_app : (heatStep s).app = s.app := by unfold heatStep; split <;> simp
@[simp] theorem heatStep_ports : (heatStep s).ports = s.ports := by unfold heatStep; split <;> simp
@[simp] theorem heatStep_tieDraws : (heatStep s).tieDraws = s.tieDraws := by unfold heatStep; split <;> simp
@[simp] theorem heatStep_pending : (heatStep s).pending = s.pending := by unfold heatStep; split <;> simp

/-! #### `apportionStep`: the evaluator and the apportioner work (R66, R82) -/

@[simp] theorem apportionStep_resetHeld : (apportionStep s).resetHeld = s.resetHeld := by unfold apportionStep; split <;> simp
@[simp] theorem apportionStep_timer : (apportionStep s).timer = s.timer := by unfold apportionStep; split <;> simp
@[simp] theorem apportionStep_plan : (apportionStep s).plan = s.plan := by unfold apportionStep; split <;> simp
@[simp] theorem apportionStep_reports : (apportionStep s).reports = s.reports := by unfold apportionStep; split <;> simp
@[simp] theorem apportionStep_latched : (apportionStep s).latched = s.latched := by unfold apportionStep; split <;> simp
@[simp] theorem apportionStep_demand : (apportionStep s).demand = s.demand := by unfold apportionStep; split <;> simp
@[simp] theorem apportionStep_heat : (apportionStep s).heat = s.heat := by unfold apportionStep; split <;> simp
@[simp] theorem apportionStep_ports : (apportionStep s).ports = s.ports := by unfold apportionStep; split <;> simp
@[simp] theorem apportionStep_tieDraws : (apportionStep s).tieDraws = s.tieDraws := by unfold apportionStep; split <;> simp
@[simp] theorem apportionStep_pending : (apportionStep s).pending = s.pending := by unfold apportionStep; split <;> simp
@[simp] theorem apportionStep_app_published : (apportionStep s).app.published = s.app.published := by unfold apportionStep; split <;> simp
@[simp] theorem apportionStep_app_prevE : (apportionStep s).app.prevE = s.app.prevE := by unfold apportionStep; split <;> simp
@[simp] theorem apportionStep_app_prevR : (apportionStep s).app.prevR = s.app.prevR := by unfold apportionStep; split <;> simp
@[simp] theorem apportionStep_app_runCount : (apportionStep s).app.runCount = s.app.runCount := by unfold apportionStep; split <;> simp
@[simp] theorem apportionStep_app_runPosted : (apportionStep s).app.runPosted = s.app.runPosted := by unfold apportionStep; split <;> simp
@[simp] theorem apportionStep_app_engine : (apportionStep s).app.engine = s.app.engine := by unfold apportionStep; split <;> simp

end Frames

/-! ### What each stage makes of the part it owns -/

section Owned

variable (s : State)

@[simp] theorem stampBoundary_timer : (stampBoundary s).timer = s.timer.stamped := rfl
@[simp] theorem stampBoundary_app_pendingSet : (stampBoundary s).app.pendingSet = none := rfl
@[simp] theorem stampBoundary_events : (stampBoundary s).events = s.events := rfl
@[simp] theorem copyPlan_plan : (copyPlan s).plan = s.plan.copied := rfl
@[simp] theorem takePeriod_timer : (takePeriod s).timer = s.timer.takePeriod s.plan.c.live := rfl
@[simp] theorem takePeriod_events : (takePeriod s).events = s.events := rfl

/-- Report intake hands on the copy that it has just aged (R62). -/
@[simp] theorem ageReports_latched : (ageReports s).latched = (ageReports s).reports := rfl

@[simp] theorem ageReports_vehicle : (ageReports s).reports.vehicle = s.reports.vehicle := rfl

@[simp] theorem decideEngine_app_engine :
    (decideEngine s).app.engine = engineOf s.plan.allLive.isSome s.latched.axles.state.isUsable := rfl

/-- With all four sections live, the evaluator's state is brought up to date and the set is computed (R66, R82). -/
theorem apportionStep_live {live : PlanCopy} (h : s.plan.allLive = some live) :
    (apportionStep s).cap = s.cap.next live.t live.b s.latched (s.timer.delta.getD 0) ∧
    (apportionStep s).app =
      { s.app with pendingSet := some (computeSet live (postLanes live (shiftSlipStep live s))) } := by
  simp [apportionStep, h]

/-- While a section is missing, the evaluator's state stays and the pending set is one of zeros (R66, R103). -/
theorem apportionStep_unplanned (h : s.plan.allLive = none) :
    apportionStep s = { s with app := { s.app with pendingSet := some (GrantSet.zero .unplanned 0) } } := by
  simp [apportionStep, h]

/-- A boundary always begins a computation (R2, R5). -/
theorem apportionStep_pendingSet_isSome : (apportionStep s).app.pendingSet.isSome = true := by
  unfold apportionStep; split <;> rfl

end Owned

/-! ### What each stage may post -/

section Posts

variable (s : State)

theorem copyPlan_postings : Postings [.planApplied] s.events (copyPlan s).events := by
  unfold copyPlan
  exact (((Postings.none.postIf _ _ (by simp)).postIf _ _ (by simp)).postIf _ _ (by simp)).postIf _ _ (by simp)

theorem ageReports_postings : Postings [.refresh, .expired] s.events (ageReports s).events := by
  unfold ageReports
  exact (((((Postings.none.postIf _ _ (by simp)).postIf _ _ (by simp)).postIf _ _ (by simp)).postIf _ _
    (by simp)).postIf _ _ (by simp)).postIf _ _ (by simp)

theorem ageDemand_postings : Postings [.refresh, .expired] s.events (ageDemand s).events := by
  unfold ageDemand
  exact (((Postings.none.postIf _ _ (by simp)).postIf _ _ (by simp)).postIf _ _ (by simp)).postIf _ _ (by simp)

theorem decideEngine_postings : Postings [.stateChange] s.events (decideEngine s).events := by
  unfold decideEngine
  exact Postings.none.postIf _ _ (by simp)

theorem holdStep_postings : Postings [.holdDropped] s.events (holdStep s).events := by
  unfold holdStep
  split
  · exact .none
  · split
    · exact .none
    · exact Postings.none.post _ (by simp)
    · exact .none

theorem postHeat_postings {e : PerPort EventUnit} (achieved : Option Force) (h : HeatStep)
    (hs : Postings [.novalue, .heatSat, .heatState] e s.events) :
    Postings [.novalue, .heatSat, .heatState] e (postHeat achieved h s).events := by
  unfold postHeat
  exact ((hs.postIf _ _ (by simp)).postIf _ _ (by simp)).postIf _ _ (by simp)

theorem heatStep_postings : Postings [.novalue, .heatSat, .heatState] s.events (heatStep s).events := by
  unfold heatStep
  split
  · exact .none
  · exact postHeat_postings _ _ _ (postHeat_postings _ _ _ (postHeat_postings _ _ _ .none))

theorem shiftSlipStep_postings (live : PlanCopy) :
    Postings [.novalue, .shiftLong, .slipCut] s.events (shiftSlipStep live s).events := by
  unfold shiftSlipStep
  exact (Postings.none.postIf _ _ (by simp)).postIf _ _ (by simp)

theorem postLanes_postings (live : PlanCopy) {e : PerPort EventUnit}
    (hs : Postings [.novalue, .shiftLong, .slipCut] e s.events) :
    Postings [.novalue, .shiftLong, .slipCut] e (postLanes live s).events := by
  unfold postLanes
  exact ((((((hs.postIf _ _ (by simp)).postIf _ _ (by simp)).postIf _ _ (by simp)).postIf _ _
    (by simp)).postIf _ _ (by simp)).postIf _ _ (by simp)).postIf _ _ (by simp)

theorem apportionStep_postings : Postings [.novalue, .shiftLong, .slipCut] s.events (apportionStep s).events := by
  unfold apportionStep
  split
  · exact .none
  · exact postLanes_postings _ _ (shiftSlipStep_postings _ _)

end Posts

end Sys2Proof.Machine
end

