-- ==== Sys2Proof/Laws/Clock.lean ====
section
/-! SUPPORT. The timer's positions and the settling of a tick, case by case. -/

namespace Sys2Proof.Machine

open Sys2Proof

/-! ### Which position is due, phase by phase -/

section Due

variable {x : Timer}

theorem due_guardEnd_iff :
    x.due = some .guardEnd ↔ x.phase = .guarding ∧ x.restartReq = false ∧ Config.guardTicks ≤ x.counter := by
  cases hp : x.phase <;> cases hr : x.restartReq <;> cases hm : x.mode <;> simp [Timer.due, hp, hr, hm]

theorem due_publishPoint_iff : x.due = some .publishPoint ↔ x.phase = .openPhase ∧ x.q * 10 ≤ x.counter := by
  cases hp : x.phase <;> cases hr : x.restartReq <;> cases hm : x.mode <;> simp [Timer.due, hp, hr, hm]

theorem due_startEnd_iff :
    x.due = some .startEnd ↔ x.phase = .start ∧ x.restartReq = false ∧ Config.startTicks ≤ x.counter := by
  cases hp : x.phase <;> cases hr : x.restartReq <;> cases hm : x.mode <;> simp [Timer.due, hp, hr, hm]

theorem due_freeBoundary_iff :
    x.due = some .freeBoundary ↔ x.phase = .closed ∧ x.mode = .free ∧ x.p * 10 ≤ x.counter := by
  cases hp : x.phase <;> cases hr : x.restartReq <;> cases hm : x.mode <;> simp [Timer.due, hp, hr, hm]

theorem due_syncDeadline_iff :
    x.due = some .syncDeadline ↔ x.phase = .closed ∧ x.mode = .synced ∧ syncDeadline x.p ≤ x.counter := by
  cases hp : x.phase <;> cases hr : x.restartReq <;> cases hm : x.mode <;> simp [Timer.due, hp, hr, hm]

theorem due_restartBoundary_iff :
    x.due = some .restartBoundary ↔
      (x.phase = .start ∨ x.phase = .guarding) ∧ x.restartReq = true ∧ Config.guardTicks ≤ x.counter := by
  cases hp : x.phase <;> cases hr : x.restartReq <;> cases hm : x.mode <;> simp [Timer.due, hp, hr, hm]

end Due

/-! ### Taking a position, and settling a tick -/

/-- Everything a position command can do: the position, where it is due and RESET is released, or nothing. -/
theorem takeIfDue_cases (x : Position) (s : State) :
    (s.resetHeld = false ∧ s.timer.due = some x ∧ takeIfDue x s = takePosition x s) ∨
    ((s.resetHeld = true ∨ s.timer.due ≠ some x) ∧ takeIfDue x s = s) := by
  by_cases hr : s.resetHeld = true
  · exact .inr ⟨.inl hr, by simp [takeIfDue, hr]⟩
  · rw [Bool.not_eq_true] at hr
    by_cases hd : s.timer.due = some x
    · exact .inl ⟨hr, hd, by simp [takeIfDue, hr, hd]⟩
    · exact .inr ⟨.inr hd, by simp [takeIfDue, hd]⟩

/-- Everything one settling can do: nothing, a position that is due, or the edge, with or without a free value drawn. -/
theorem settleOne_cases (s : State) :
    (s.timer.due = none ∧ s.timer.syncEdge = false ∧ settleOne s = s) ∨
    (∃ x n, s.timer.due = some x ∧ settleOne s = takePosition x { s with tieDraws := n }) ∨
    (∃ n, s.timer.syncEdge = true ∧ settleOne s = takeSyncEdge { s with tieDraws := n }) := by
  cases hd : s.timer.due with
  | none =>
    cases he : s.timer.syncEdge with
    | false => exact .inl ⟨rfl, rfl, by simp [settleOne, hd, he]⟩
    | true => exact .inr (.inr ⟨s.tieDraws, rfl, by simp [settleOne, hd, he]⟩)
  | some x =>
    cases he : s.timer.syncEdge with
    | false => exact .inr (.inl ⟨x, s.tieDraws, rfl, by simp [settleOne, hd, he]⟩)
    | true =>
      cases hm : s.timer.mode with
      | free => exact .inr (.inr ⟨s.tieDraws, rfl, by simp [settleOne, hd, he, hm]⟩)
      | synced =>
        cases hf : Config.syncEdgeFirst s.tieDraws with
        | true => exact .inr (.inr ⟨s.tieDraws + 1, rfl, by simp [settleOne, hd, he, hm, hf]⟩)
        | false => exact .inr (.inl ⟨x, s.tieDraws + 1, rfl, by simp [settleOne, hd, he, hm, hf]⟩)

/-- What every single settling keeps, the settling of a tick keeps. -/
theorem settleTick_keeps {P : State → Prop} (h : ∀ s, P s → P (settleOne s)) {s : State} (hs : P s) :
    P (settleTick s) :=
  h _ (h _ (h _ hs))

end Sys2Proof.Machine
end

