-- ==== Sys2Proof/Laws/Exchange.lean ====
section
/-! SUPPORT. The release of select, case by case, and the bytes a port takes, phase by phase. -/

namespace Sys2Proof.Machine

open Sys2Proof

/-- Everything a release can do: nothing, where the port has no such exchange open; a failure of the port's own checks;
an answer of the block, with the exchange recorded as good, or refused whole. -/
theorem releaseExchange_cases (p : Port) (isKind : Exchange → Bool) (fault : Exchange → Option ResultCode)
    (act : Exchange → State → Answer) (s : State) :
    (((s.port p).phase = .idle ∨ isKind (s.port p).xch = false) ∧ releaseExchange p isKind fault act s = s) ∨
    ((s.port p).phase ≠ .idle ∧ isKind (s.port p).xch = true ∧
      ((∃ code, fault (s.port p).xch = some code ∧
          releaseExchange p isKind fault act s = failExchange p code 0 0 0 s) ∨
        (fault (s.port p).xch = none ∧
          ((∃ t, act (s.port p).xch s = .done t ∧ releaseExchange p isKind fault act s = passExchange p .ok 0 t) ∨
            (∃ t n, act (s.port p).xch s = .partly t n ∧
              releaseExchange p isKind fault act s = passExchange p .seedPartial n t) ∨
            (∃ code d1 d2 d3, act (s.port p).xch s = .refuse code d1 d2 d3 ∧
              releaseExchange p isKind fault act s = failExchange p code d1 d2 d3 s))))) := by
  by_cases h : (s.port p).phase = .idle ∨ isKind (s.port p).xch = false
  · exact .inl ⟨h, by simp [releaseExchange, h]⟩
  · refine .inr ?_
    rw [not_or, Bool.not_eq_false] at h
    refine ⟨h.1, h.2, ?_⟩
    cases hf : fault (s.port p).xch with
    | some code => exact .inl ⟨code, rfl, by simp [releaseExchange, h, hf]⟩
    | none =>
      refine .inr ⟨rfl, ?_⟩
      cases ha : act (s.port p).xch s with
      | done t => exact .inl ⟨t, rfl, by simp [releaseExchange, h, hf, ha, settleExchange]⟩
      | partly t n => exact .inr (.inl ⟨t, n, rfl, by simp [releaseExchange, h, hf, ha, settleExchange]⟩)
      | refuse code d1 d2 d3 =>
        exact .inr (.inr ⟨code, d1, d2, d3, rfl, by simp [releaseExchange, h, hf, ha, settleExchange]⟩)

/-- What holds of the state, and of every state that the block's answer holds, and does not look at port controllers,
holds after a release. -/
theorem releaseExchange_keeps {P : State → Prop} (p : Port) (isKind : Exchange → Bool)
    (fault : Exchange → Option ResultCode) (act : Exchange → State → Answer) (s : State)
    (hport : ∀ (t : State) (v : PortControl), P t → P (t.setPort p v)) (hs : P s)
    (hdone : ∀ t, act (s.port p).xch s = .done t → P t)
    (hpartly : ∀ t n, act (s.port p).xch s = .partly t n → P t) :
    P (releaseExchange p isKind fault act s) := by
  rcases releaseExchange_cases p isKind fault act s with
    ⟨_, h⟩ | ⟨_, _, ⟨code, _, h⟩ | ⟨_, ⟨t, ha, h⟩ | ⟨t, n, ha, h⟩ | ⟨code, d1, d2, d3, _, h⟩⟩⟩ <;> rw [h]
  · exact hs
  · exact hport _ _ hs
  · exact hport _ _ (hdone t ha)
  · exact hport _ _ (hpartly t n ha)
  · exact hport _ _ hs

/-! ### What a port has collected when it hands an exchange on -/

/-- No ragged byte: a whole number of bytes came. -/
theorem Exchange.isRagged_eq_false {x : Exchange} {stray : Nat} (h : (x.bits + stray) % 8 = 0) :
    x.isRagged stray = false := by
  simp [Exchange.isRagged, h]

@[simp] theorem Exchange.command_of_h0 {x : Exchange} {h : Byte} (hx : x.h0 = some h) : x.command = commandOf h := by
  simp [Exchange.command, hx]

@[simp] theorem Exchange.cls_of_h0 {x : Exchange} {h : Byte} (hx : x.h0 = some h) : x.cls = classOf h := by
  simp [Exchange.cls, hx]

@[simp] theorem Exchange.index_of_h1 {x : Exchange} {h : Byte} (hx : x.h1 = some h) : x.index = h.toNat := by
  simp [Exchange.index, hx]

/-! ### Bytes, phase by phase (R154) -/

section TakeByte

variable (x : PortControl) (record : Nat → Nat → Option (List Byte)) (v : Byte)

theorem PortControl.takeByte_idle (h : x.phase = .idle) : x.takeByte record v = x := by
  simp [PortControl.takeByte, h]

theorem PortControl.takeByte_keeps_status : (x.takeByte record v).status = x.status := by
  unfold PortControl.takeByte; cases x.phase <;> simp only <;> (try split) <;> rfl

theorem PortControl.takeByte_keeps_errors : (x.takeByte record v).errors = x.errors := by
  unfold PortControl.takeByte; cases x.phase <;> simp only <;> (try split) <;> rfl

theorem PortControl.takeByte_keeps_last : (x.takeByte record v).last = x.last := by
  unfold PortControl.takeByte; cases x.phase <;> simp only <;> (try split) <;> rfl

theorem PortControl.takeByte_keeps_bitmap : (x.takeByte record v).bitmap = x.bitmap := by
  unfold PortControl.takeByte; cases x.phase <;> simp only <;> (try split) <;> rfl

end TakeByte

end Sys2Proof.Machine
end

