-- ==== Sys2Proof/Laws/Collected.lean ====
section
/-! SUPPORT. What a collected exchange answers to the port's questions, and what the release of select makes of it: the
lemmas that a proof about a WRITE or a command cites instead of unfolding the port controller. -/

namespace Sys2Proof.Laws

open Sys2Proof Sys2Proof.Machine

variable {s : State} {p : Port} {h0 h1 : Byte} {data : List Byte}

theorem collected_phase (h : Collected s p h0 h1 data) : (s.port p).phase ≠ .idle := by simp [h.1]

theorem collected_h0 (h : Collected s p h0 h1 data) : (s.port p).xch.h0 = some h0 := h.2.2.1

theorem collected_h1 (h : Collected s p h0 h1 data) : (s.port p).xch.h1 = some h1 := h.2.2.2.1

theorem collected_count (h : Collected s p h0 h1 data) : (s.port p).xch.count = data.length := h.2.2.2.2.2

theorem collected_data (h : Collected s p h0 h1 data) : (s.port p).xch.data = data.take 33 := h.2.2.2.2.1

/-- Where no more bytes came than the port stores, it stores them all. -/
theorem collected_data_short (h : Collected s p h0 h1 data) (n : data.length ≤ 33) : (s.port p).xch.data = data := by
  rw [collected_data h, List.take_of_length_le n]

theorem collected_command (h : Collected s p h0 h1 data) : (s.port p).xch.command = h0.toNat / 16 := by
  simp [Exchange.command, collected_h0 h, commandOf]

theorem collected_cls (h : Collected s p h0 h1 data) : (s.port p).xch.cls = h0.toNat % 16 := by
  simp [Exchange.cls, collected_h0 h, classOf]

theorem collected_index (h : Collected s p h0 h1 data) : (s.port p).xch.index = h1.toNat := by
  simp [Exchange.index, collected_h1 h]

theorem collected_isRagged (h : Collected s p h0 h1 data) (stray : Nat) :
    (s.port p).xch.isRagged stray = decide (stray % 8 ≠ 0) := by
  have hb := h.2.1
  simp only [Exchange.isRagged, decide_eq_decide]
  omega

/-- The record that the header names. -/
theorem collected_record (h : Collected s p h0 h1 data) :
    (s.port p).xch.record =
      match classOfCode (h0.toNat % 16) with
      | some k => if h1.toNat ≤ lastIndex k then some (k, h1.toNat) else none
      | none => none := by
  simp only [Exchange.record, collected_cls h, collected_h1 h]
  cases classOfCode (h0.toNat % 16) <;> rfl

/-- A failed exchange, in the statements' terms. -/
theorem collected_fail (h : Collected s p h0 h1 data) (code : ResultCode) (d1 d2 d3 : Nat) :
    failExchange p code d1 d2 d3 s = s.withBad p h0 h1 code d1 d2 d3 := by
  simp only [failExchange, State.withBad, State.setPort, PortControl.failed, PortControl.released, PortControl.atRest,
    resultOf, headerResult, collected_command h, collected_cls h, collected_index h]
  rfl

/-- A good exchange, in the statements' terms, on a state that has the same port controllers. -/
theorem collected_pass (h : Collected s p h0 h1 data) (t : State) (e : t.port p = s.port p) (code : ResultCode)
    (d1 : Nat) : passExchange p code d1 t = t.withGood p h0 h1 code d1 := by
  simp only [passExchange, State.withGood, State.setPort, PortControl.passed, PortControl.released,
    PortControl.atRest, resultOf, headerResult, e, collected_command h, collected_cls h, collected_index h]
  rfl

variable {isKind : Exchange → Bool} {fault : Exchange → Option ResultCode} {act : Exchange → State → Answer}

/-- The release of a collected exchange that fails a check of the port. -/
theorem collected_release_fails (h : Collected s p h0 h1 data) (k : isKind (s.port p).xch = true) {code : ResultCode}
    (f : fault (s.port p).xch = some code) : releaseExchange p isKind fault act s = s.withBad p h0 h1 code 0 0 0 := by
  simp only [releaseExchange, k, f, collected_fail h]
  simp [collected_phase h]

/-- The release of a collected exchange that passes the port's checks. -/
theorem collected_release_taken (h : Collected s p h0 h1 data) (k : isKind (s.port p).xch = true)
    (f : fault (s.port p).xch = none) :
    releaseExchange p isKind fault act s = settleExchange p s (act (s.port p).xch s) := by
  simp only [releaseExchange, k, f]
  simp [collected_phase h]

theorem collected_isWriteOf (h : Collected s p h0 h1 data) (code : Nat) :
    isWriteOf code (s.port p).xch = (decide (h0.toNat / 16 = 2) && decide (h0.toNat % 16 = code)) := by
  simp [isWriteOf, collected_command h, collected_cls h]

theorem collected_isCommand (h : Collected s p h0 h1 data) (code : Nat) :
    isCommand code (s.port p).xch = decide (h0.toNat / 16 = code) := by
  simp only [isCommand, collected_command h, collected_h0 h, Option.isSome_some, Bool.and_true]

end Sys2Proof.Laws
end

