-- ==== Sys2Proof/Laws/Rounding.lean ====
section
/-! SUPPORT. The small facts about rounded quotients, forces and curves that the claims about grants and heat need. -/

namespace Sys2Proof.Machine

open Sys2Proof

/-- A whole quotient stands for itself in every mode (R21). -/
theorem roundDiv_whole (m : Rounding) {n d : Int} (h : n % d = 0) : roundDiv m n d = n / d := by simp [roundDiv, h]

/-- Every mode gives the integer just below the quotient or the one above it. -/
theorem roundDiv_between (m : Rounding) (n d : Int) : n / d ≤ roundDiv m n d ∧ roundDiv m n d ≤ n / d + 1 := by
  unfold roundDiv
  cases m <;> simp only <;> repeat' split
  all_goals omega

/-- A quotient of numbers that are not negative is not negative in any mode. -/
theorem roundDiv_nonneg (m : Rounding) {n d : Int} (hn : 0 ≤ n) (hd : 0 ≤ d) : 0 ≤ roundDiv m n d :=
  le_trans (Int.ediv_nonneg hn hd) (roundDiv_between m n d).1

/-- A force that is a number lies within F_MAX (R24). -/
theorem forceOf_le {q : Int} {n : Nat} (h : forceOf q = .newtons n) : n ≤ Config.fMax := by
  unfold forceOf at h
  split at h
  · cases h
  · injection h with h
    omega

theorem deratePercent_le (f : Nat) {percent : Nat} (h : percent ≤ 100) : deratePercent f percent ≤ f := by
  unfold deratePercent
  calc f * percent / 100 ≤ f * 100 / 100 := Nat.div_le_div_right (Nat.mul_le_mul_left f h)
    _ = f := Nat.mul_div_cancel f (by decide)

theorem derateAge_le (isAging : Bool) (f : Nat) : derateAge isAging f ≤ f := by
  cases isAging
  · exact le_refl f
  · exact Nat.div_le_self f 2

@[simp] theorem curveAt_nil (m : Rounding) (x : Int) : curveAt m x [] = 0 := rfl
@[simp] theorem curveAt_single (m : Rounding) (x : Int) (p : Point) : curveAt m x [p] = p.y := rfl

end Sys2Proof.Machine
end

