-- ==== Sys2Proof/Laws/Step.lean ====
section
/-! SUPPORT. How a property of every command becomes a property of every step. -/

namespace Sys2Proof.Machine

open Sys2Proof

/-- What every command keeps, and the queue does not matter to, a step keeps. -/
theorem step_keeps {P : State → Prop} (hqueue : ∀ (s : State) (q : List Instr), P s → P { s with pending := q })
    (hexec : ∀ c s t, P s → exec c s = .next t → P t) {s t : State} (hs : P s) (h : step s = .next t) : P t := by
  cases hp : s.pending with
  | nil =>
    simp only [step, hp] at h
    injection h with h
    exact h ▸ hs
  | cons c rest =>
    simp only [step, hp] at h
    exact hexec c _ t (hqueue s rest hs) h

end Sys2Proof.Machine
end

