-- ==== Sys2Proof/WellFormed.lean ====
section
/-! DEFINITION. Which commands are well formed: the partial byte at a release has fewer than eight bits (R155: a port
takes a byte when its eighth bit has been sampled). Bytes and ports are well formed by their types. -/

namespace Sys2Proof

/-- The bits of the partial byte that a release command names, none for a command that releases nothing or releases
a whole number of bytes. -/
def Instr.stray : Instr → Option Nat
  | .read _ n | .writeDemand _ n | .writeHoldSet _ n | .writeReport _ n | .writePlanStaged _ n | .writeSeed _ n
  | .writeEventMask _ n | .writePortStatus _ n | .write _ n | .commit _ n | .withdraw _ n | .ack _ n | .restart _ n
  | .unknownCommand _ n => some n
  | .deviceReset | .resetRelease _ | .startIntervalEnd | .guardEnd | .publishPoint | .freeBoundary | .selfBoundary
  | .restartRequestBoundary | .syncEdge | .selectAssert _ | .emptyExchange _ | .tick _ | .byteTaken _ _ => none

/-- A partial byte has fewer than eight bits. -/
def Instr.wellFormed (i : Instr) : Bool :=
  match i.stray with
  | none => true
  | some n => decide (n < 8)

end Sys2Proof
end

