-- ==== Sys2Proof/Tests/Slice0.lean ====
section
/-! SUPPORT. Tests against the worked examples of spec/, the smoke test of WellFormed, and for each statement with
hypotheses a concrete state and operands that meet them. -/

namespace Sys2Proof.Tests

open Sys2Proof Sys2Proof.Machine

/-! ### Well-formed commands -/

theorem test_wellFormed_accepts_seven_stray_bits : (Instr.read .e 7).wellFormed = true := by decide

theorem test_wellFormed_refuses_eight_stray_bits : (Instr.read .e 8).wellFormed = false := by decide

theorem test_wellFormed_refuses_stray_bits_of_a_write : (Instr.writeSeed .b 9).wellFormed = false := by decide

theorem test_wellFormed_accepts_tick : (Instr.tick true).wellFormed = true := by decide

/-- No row of the table gives bits, so no word spells a command and the queue stays. -/
theorem test_withFetchWord_leaves_the_state : State.reset.withFetchWord 16 0x2501 = State.reset := by decide

/-! ### States to test on -/

/-- Section E of spec 11.1. -/
def planE : PlanE := { rampRate := 100000, rounding := 0, curve := [⟨800, 300⟩, ⟨1400, 1000⟩, ⟨2200, 1560⟩] }

/-- Section T of spec 11.1. -/
def planT : PlanT :=
  { rampRate := 150000, axleRatio := 1050, radius := 500, shiftMax := 800, rounding := 0,
    curve := [⟨0, 0⟩, ⟨1500, 3000⟩, ⟨3000, 3000⟩] }

/-- An axle of spec 11.1. -/
def planAxle (share : Nat) : AxlePlan := { gain := 25, baseShare := share, cTh := 40000, lambda := 25 }

/-- Section B of spec 11.1. -/
def planB : PlanB :=
  { warmOn := 250, hotOn := 350, fadeOn := 450, hyst := 10, slipHold := 60, rounding := 0,
    axles := { front := planAxle 300, drive := planAxle 450, tag := planAxle 250 },
    fade := [⟨300, 100⟩, ⟨600, 40⟩] }

/-- Section C of spec 11.1. -/
def planC : PlanC :=
  { p := 20, q := 10, syncMode := 1, order := 0, softAge := 3, hardAge := 10, driveShare := 450, mu := 300,
    nominalMass := 20000, kp := 20, ki := 40, holdMax := 1500, shortThreshold := 2000, shortCount := 3,
    fallbackSpeed := 800, rounding := 0,
    stalk := { stage1 := 300, stage2 := 600, stage3 := 900, stage4 := 1200, stage5 := 1500 } }

/-- The plan of spec 11.1, staged and pending. -/
def pendingPlan : PlanStore :=
  { e := { staged := planE, live := none, pending := true }, t := { staged := planT, live := none, pending := true },
    b := { staged := planB, live := none, pending := true }, c := { staged := planC, live := none, pending := true },
    stepE := none, stepT := none }

/-- The plan of spec 11.1, live. -/
def livePlan : PlanStore :=
  { e := { staged := planE, live := some planE, pending := false },
    t := { staged := planT, live := some planT, pending := false },
    b := { staged := planB, live := some planB, pending := false },
    c := { staged := planC, live := some planC, pending := false }, stepE := some 2000, stepT := some 3000 }

/-- An axle report of spec 11.2, with a SLIP flag. -/
def axleAt (slip : Bool) : AxleReport := { pmax := 800, achieved := some 0, slip := slip }

/-- The reports of spec 11.3: 90.6 km/h in a gear of ratio 256, with flags to choose. -/
def drivingReports (shifting frontSlip driveSlip : Bool) : Reports :=
  { exhaust := Report.written { rpm := 1971, avail := 100, achieved := some 0 },
    trans := Report.written { rpm := 1971, avail := 100, achieved := some 0, gear := 256, shifting := shifting },
    axles := Report.written
      { speed := 906, axle := { front := axleAt frontSlip, drive := axleAt driveSlip, tag := axleAt false } },
    vehicle := { written := true, mass := 18000, ambient := 25 } }

/-- The part before the first boundary of spec 11.2: the plan pending, the reports at rest, the two seeds. -/
def startUp : State :=
  { State.reset with
    timer := { State.reset.timer with counter := 200 }
    plan := pendingPlan
    reports := {
      exhaust := Report.written { rpm := 600, avail := 100, achieved := some 0 }
      trans := Report.written { rpm := 0, avail := 100, achieved := none, gear := 0, shifting := false }
      axles := Report.written { speed := 0, axle := { front := axleAt false, drive := axleAt false, tag := axleAt false } }
      vehicle := { written := true, mass := 18000, ambient := 25 } }
    heat := { State.reset.heat with accounts := {
      front := { temp := 180 * 65536, state := .cool, seeded := true, sat := false }
      drive := { temp := 240 * 65536, state := .cool, seeded := true, sat := false }
      tag := HeatAccount.reset } } }

/-- The part in a CLOSED period of spec 11.3, stalk stage 5 held, with the flags and the evaluator's state to choose. -/
def driving (cap : Capability) (shifting frontSlip driveSlip : Bool) : State :=
  { State.reset with
    timer := { State.reset.timer with counter := 200, phase := .closed, mode := .synced, delta := some 200 }
    plan := livePlan
    reports := drivingReports shifting frontSlip driveSlip
    demand := { State.reset.demand with stalk := some { value := 5, age := 0, mark := false } }
    cap := cap
    app := { State.reset.app with engine := .running } }

/-- The same with the evaluator as after reset and no flag. -/
def cruising : State := driving Capability.reset false false false

/-- The part with its timer at a position, RESET released. -/
def clockAt (phase : Phase) (mode : SyncMode) (counter : Nat) (restartReq : Bool) : State :=
  { State.reset with timer := { State.reset.timer with
      phase := phase, mode := mode, counter := counter, restartReq := restartReq } }

/-- A state in which a port has collected the bytes of a command other than READ, after one FILL byte. -/
def collect (s : State) (p : Port) (h0 h1 : Byte) (data : List Byte) : State :=
  s.setPort p { s.port p with
    sel := true, phase := .dataIn,
    xch := { Exchange.empty with
      bits := 8 * (data.length + 3), h0 := some h0, h1 := some h1, data := data.take 33, count := data.length } }

theorem collected_collect (s : State) (p : Port) (h0 h1 : Byte) (data : List Byte) :
    Collected (collect s p h0 h1 data) p h0 h1 data := by
  cases p <;> exact ⟨rfl, Nat.mul_mod_right 8 _, rfl, rfl, rfl, rfl⟩

/-- A state in which a port has collected a READ of a record with its termination byte last. -/
def collectRead (s : State) (p : Port) (h0 h1 : Byte) (record : List Byte) (count : Nat) : State :=
  s.setPort p { s.port p with
    sel := true, phase := .ended, snapshot := some record,
    xch := { Exchange.empty with
      bits := 8 * (count + 3), h0 := some h0, h1 := some h1, wait := some 0xFF#8, count := count,
      terminated := true } }

/-- The state after a command, the state itself if it has none. -/
def after (c : Instr) (s : State) : State :=
  match exec c s with
  | .next t => t
  | .fault _ => s
  | .refused _ => s

/-! ### Worked examples of the arithmetic -/

/-- The table of R21. -/
theorem test_rounding_table :
    [roundDiv .nearestEven 5 2, roundDiv .towardZero 5 2, roundDiv .down 5 2, roundDiv .up 5 2,
      roundDiv .nearestEven 7 2, roundDiv .nearestEven (-5) 2, roundDiv .towardZero (-5) 2, roundDiv .down (-5) 2,
      roundDiv .up (-5) 2, roundDiv .nearestEven (-7) 2, roundDiv .down (-302) 10] =
    [2, 2, 2, 3, 4, -2, -2, -3, -2, -4, -31] := by decide

/-- E.CURVE at 1801 rpm, and outside its points (spec 2.8). -/
theorem test_curve_values :
    [curveAt .nearestEven 1801 planE.curve, curveAt .up 1801 planE.curve, curveAt .towardZero 1801 planE.curve,
      curveAt .down 1801 planE.curve, curveAt .down 2500 planE.curve, curveAt .up 2000 planE.curve] =
    [1281, 1281, 1280, 1280, 1560, 1420] := by decide

/-- Exhaust and retarder forces of spec 2.8, with the tie, the clamp and the overflow. -/
theorem test_torque_forces :
    [exhaustForce .up 1400 256 1050 500, exhaustForce .nearestEven 1400 256 1050 500,
      retarderForce .nearestEven 3000 1050 500, retarderForce .nearestEven 2100 1050 500,
      retarderForce .nearestEven 32 1050 500, retarderForce .nearestEven 96 1050 500,
      retarderForce .down (-32) 1050 500, retarderForce .up 8750 4096 350, retarderForce .down 8751 4096 350] =
    [.newtons 11485, .newtons 11484, .newtons 24609, .newtons 17227, .newtons 262, .newtons 788, .newtons 0,
      .newtons 400000, .novalue] := by decide

/-- Demand forces and the drive ceiling (spec 3.11, 5.10). -/
theorem test_demand_and_ceiling :
    [demandForce .nearestEven 18000 1500, demandForce .nearestEven 18000 900, driveCeiling planC 18000] =
    [27000, 16200, 23830] := by decide

/-- The second and the fifth boundary of the speed-hold run of spec 3.11. -/
theorem test_speed_hold_run :
    nextIntegrator 40 1500 200 24 false 16384 = 36044 ∧ holdOutput 20 1500 24 36044 = 515 ∧
    nextIntegrator 40 1500 200 29 true 36044 = 36044 ∧
    nextIntegrator 40 1500 200 (-7) false 57343 = 51609 ∧ holdOutput 20 1500 (-7) 51609 = 0 := by decide

/-- The endurance grants of the worked allocation (spec 5.10). -/
theorem test_endurance_allocation :
    endurancePair 0 27000 23830 { capacity := 11484, prev := 8000, step := 2000, achieved := some 9500 }
      { capacity := 24609, prev := 12000, step := 3000, achieved := some 10000 } =
    { e := { grant := 10000, ramped := true, capped := false },
      r := { grant := 13830, ramped := false, capped := true } } := by decide

/-- The service split of the worked allocation (spec 5.10). -/
theorem test_service_split :
    serviceSplit 4000
      { front := { capacity := 20000, cap := 20000, factor := 81000, frozen := none },
        drive := { capacity := 14000, cap := 0, factor := 94500, frozen := none },
        tag := { capacity := 20000, cap := 20000, factor := 75000, frozen := none } } =
    { front := { grant := 2078, frozen := false, capped := false },
      drive := { grant := 0, frozen := false, capped := true },
      tag := { grant := 1922, frozen := false, capped := false } } := by decide

/-- The unit grants of the worked allocation (spec 5.10). -/
theorem test_unit_grants :
    [exhaustTorque 10000 256 1050 500, retarderTorque 13830 1050 500, pressureGrant 2078 25, pressureGrant 0 25,
      pressureGrant 1922 25] = [1219, 1685, 84, 0, 77] := by decide

/-- The worked heat step, with the granted and with the achieved force, and the cooling floor (spec 6.7). -/
theorem test_heat_steps :
    (11796480 + heatRise 2078 720 200 40000 - heatCooling 11796480 1638400 25 200,
      11796480 + heatRise 2100 720 200 40000 - heatCooling 11796480 1638400 25 200,
      heatCooling 1638466 1638400 500 625, heatCooling 1638466 1310720 500 200) =
    (11797335, 11797350, 0, 327) := by decide

/-! ### The timer's commands -/

/-- Boundary 1 of spec 11.2: all four sections live, the ramp steps, RUNNING, SYNCED. -/
theorem test_start_up_boundary :
    let t := after .startIntervalEnd startUp
    t.plan.stepE = some 2000 ∧ t.plan.stepT = some 3000 ∧ t.app.engine = .running ∧ t.timer.mode = .synced ∧
    t.events.e.counts.planApplied = 4 ∧ t.events.t.counts.stateChange = 1 := by decide

/-- The cooling of boundary 1 (spec 11.2). -/
theorem test_start_up_cooling :
    let t := after .startIntervalEnd startUp
    t.heat.accounts.front.temp = 11796480 - 507 ∧ t.heat.accounts.drive.temp = 15728640 - 704 ∧
    t.heat.accounts.tag.temp = 9830400 - 409 := by decide

/-- Set k+1 of spec 11.3: both brakes ramp up from 0 on stalk stage 5. -/
theorem test_first_set_on_the_stalk :
    (makeBoundary cruising).app.pendingSet.map (fun g =>
      (g.exhaust.grantN, g.retarder.grantN, g.summary.s, g.summary.shortfall, g.exhaust.capacity,
        g.retarder.capacity)) =
    some (2000, 3000, 0, 22000, 11484, 24609) := by decide

/-- Its flags: RAMPED, and RAMPED with CAPPED (spec 11.3). -/
theorem test_first_set_flags :
    (makeBoundary cruising).app.pendingSet.map (fun g =>
      (g.exhaust.flags.ramped, g.exhaust.flags.capped, g.retarder.flags.ramped, g.retarder.flags.capped)) =
    some (true, false, true, true) := by decide

/-- GUARD ends at tick 20 (R2). -/
theorem test_guard_end : (after .guardEnd (clockAt .guarding .free 20 false)).timer.phase = .openPhase := by decide

/-- The index after 65535 is 0 (R9). -/
theorem test_publish_wraps_the_index :
    let s := clockAt .openPhase .free 100 false
    let s : State := { s with
      timer := { s.timer with index := 65535 }, app := { s.app with pendingSet := some (GrantSet.zero .running 0) } }
    (after .publishPoint s).app.published.periodIndex = 0 ∧ (after .publishPoint s).app.published.valid = true := by
  decide

/-- The deadline of a 50 ms period is 625 ticks (R8). -/
theorem test_self_boundary_deadline :
    let s := clockAt .closed .synced 625 false
    (after .selfBoundary { s with timer := { s.timer with p := 50 } }).timer.delta = some 625 := by decide

/-- The free boundary of a 20 ms period (R7). -/
theorem test_free_boundary : (after .freeBoundary (clockAt .closed .free 200 false)).timer.delta = some 200 := by
  decide

/-- A requested boundary in GUARD at tick 20 (R17). -/
theorem test_requested_boundary :
    (after .restartRequestBoundary (clockAt .guarding .free 20 true)).timer.restartReq = false := by decide

/-- An early edge posts SYNC_EARLY to B and discards the set (R12). -/
theorem test_early_edge :
    let s := clockAt .openPhase .synced 50 false
    let t := after .syncEdge { s with timer := { s.timer with syncEdge := true, runCount := 2 } }
    t.events.b.counts.syncEarly = 1 ∧ t.timer.phase = .guarding ∧ t.timer.delta = some 50 := by decide

/-- A high sample after a low one is an edge; a high sample after a high one is none (R10). -/
theorem test_tick_samples_sync :
    (after (.tick true) State.reset).timer.syncEdge = true ∧
    (after (.tick true) (after (.tick true) { State.reset with
      timer := { State.reset.timer with syncPrev := true } })).timer.syncEdge = false := by decide

/-- After device reset the accounts stand at 150 degrees C and SEED_WANTED waits at port B (R109, R177). -/
theorem test_device_reset :
    let t := after .deviceReset startUp
    t.heat.accounts.front.temp = 9830400 ∧ t.events.b.counts.seedWanted = 1 ∧ t.plan.c.pending = false ∧
    t.attention .b = false := by decide

/-- At reset release attention is asserted at port B alone (R172). -/
theorem test_reset_release :
    let t := after (.resetRelease true) (after .deviceReset startUp)
    t.attention .b = true ∧ t.attention .e = false ∧ t.timer.syncPrev = true := by decide

/-! ### The port commands, worked through in spec 9.10 and 10.6 -/

/-- Port B with PUBLISHED 3 and HEAT_STATE 1 pending (spec 9.10). -/
def portB : State :=
  { State.reset with events := { State.reset.events with
      b := { State.reset.events.b with counts := { State.reset.events.e.counts with published := 3, heatState := 1 } } } }

/-- FILL and H0 shift out 0x40, and H1 the low byte 0x40 (spec 9.10). -/
theorem test_bitmap_bytes :
    let s := after (.selectAssert .b) portB
    let s1 := after (.byteTaken .b 0#8) s
    let s2 := after (.byteTaken .b 0x18#8) s1
    (s.ports.b.dout, s1.ports.b.dout, s2.ports.b.dout, (after (.byteTaken .b 3#8) s2).ports.b.dout) =
      (.status true, .byte 0x40#8, .byte 0x40#8, .byte 0x40#8) := by decide

/-- The wait byte of a READ of GRANT 3 shifts out its length, 14 (spec 9.10). -/
theorem test_read_length_byte :
    let s := after (.byteTaken .b 3#8) (after (.byteTaken .b 0x18#8) (after (.selectAssert .b) portB))
    (after (.byteTaken .b 0xFF#8) s).ports.b.dout = .byte 14#8 := by decide

/-- The READ of GRANT 3 records READ, GRANT, 3, OK (spec 9.10). -/
theorem test_read_records_ok :
    (after (.read .b 0) (collectRead portB .b 0x18#8 3#8 (sendGrant portB.app.published 3) 14)).ports.b.last =
      { command := 1, cls := 8, index := 3, code := .ok, detail1 := 0, detail2 := 0, detail3 := 0 } := by decide

/-- A data byte past the snapshot fails OVERRUN (R161). -/
theorem test_read_overrun :
    (after (.read .b 0) (collectRead portB .b 0x18#8 3#8 (sendGrant portB.app.published 3) 15)).ports.b.last.code =
      .overrun := by decide

/-- AXLES written one byte short fails LENGTH: status 0, one error (spec 9.10). -/
theorem test_short_write_fails_length :
    let t := after (.writeReport .b 0) (collect portB .b 0x27#8 2#8 (List.replicate 19 0#8))
    t.ports.b.last = { command := 2, cls := 7, index := 2, code := .length, detail1 := 0, detail2 := 0, detail3 := 0 } ∧
    t.ports.b.status = false ∧ t.ports.b.errors = 1 ∧ t.reports = portB.reports := by decide

/-- A mass of 40,000 kg is held at 32,000 and posts MASS_CLAMP to C; an ambient of -10 is signed (R54, R61). -/
theorem test_vehicle_write_clamps :
    let t := after (.writeReport .c 0) (collect State.reset .c 0x27#8 3#8 [0x9C#8, 0x40#8, 0xFF#8, 0xF6#8])
    t.reports.vehicle.mass = 32000 ∧ t.reports.vehicle.ambient = -10 ∧ t.events.c.counts.massClamp = 1 := by decide

/-- Port B writes DEMAND index 1: OWNER, and STALK is unchanged (spec 9.10). -/
theorem test_demand_at_the_wrong_index :
    let t := after (.writeDemand .b 0) (collect State.reset .b 0x25#8 1#8 [0#8, 3#8])
    t.ports.b.last.code = .owner ∧ t.demand.stalk = none := by decide

/-- A pedal of 12,000 is held at 10,000 (R38). -/
theorem test_pedal_clamps :
    (after (.writeDemand .b 0) (collect State.reset .b 0x25#8 0#8 [0x2E#8, 0xE0#8])).demand.pedal.map (·.value) =
      some 10000 := by decide

/-- A set speed of 20 is brought to 50, and any flag byte but 0 enables (R45, R166). -/
theorem test_hold_set_clamps :
    let t := after (.writeHoldSet .c 0) (collect State.reset .c 0x26#8 0#8 [0x80#8, 0#8, 20#8])
    t.demand.setSpeed = 50 ∧ t.demand.holdEnabled = true := by decide

/-- E.MAIN of spec 11.1: 100,000 is 0x000186A0. -/
theorem test_staged_write :
    (after (.writePlanStaged .e 0)
      (collect State.reset .e 0x2A#8 0#8 [0#8, 1#8, 0x86#8, 0xA0#8, 2#8])).plan.e.staged =
      { rampRate := 100000, rounding := 2, curve := [] } := by decide

/-- A curve whose COUNT is 9 fails LENGTH (R129). -/
theorem test_curve_count_above_eight :
    (after (.writePlanStaged .e 0) (collect State.reset .e 0x2A#8 1#8 [9#8, 0#8, 0#8])).ports.e.last.code =
      .length := by decide

/-- The seeds of spec 11.2: front 180, drive 240, tag absent. -/
theorem test_seed :
    let t := after (.writeSeed .b 0)
      (collect State.reset .b 0x2C#8 0#8 [1#8, 0#8, 180#8, 1#8, 0#8, 240#8, 0#8, 0#8, 0#8])
    (t.heat.accounts.front.temp, t.heat.accounts.drive.temp, t.heat.accounts.tag.seeded, t.ports.b.last.code) =
      (11796480, 15728640, false, .ok) := by decide

/-- A second seed of front and drive: SEED_PARTIAL with detail 3, a good exchange (R123). -/
theorem test_seed_partial :
    let t := after (.writeSeed .b 0)
      (collect startUp .b 0x2C#8 0#8 [1#8, 0#8, 10#8, 1#8, 0#8, 10#8, 1#8, 0xFF#8, 0x00#8])
    (t.ports.b.last.code, t.ports.b.last.detail1, t.ports.b.status, t.heat.accounts.front.temp,
      t.heat.accounts.tag.temp) = (.seedPartial, 3, true, 11796480, -40 * 65536) := by decide

/-- A mask of 0x4000 enables PUBLISHED alone (R167, R173). -/
theorem test_event_mask :
    let t := after (.writeEventMask .b 0) (collect portB .b 0x24#8 2#8 [0x40#8, 0#8])
    t.events.b.mask = 0x4000#16 ∧ t.attention .b = true := by decide

/-- COUNT 0 clears the error count; the write is good (R163). -/
theorem test_port_status_write :
    let s := collect State.reset .t 0x22#8 1#8 [0#8]
    let t := after (.writePortStatus .t 0) (s.setPort .t { s.port .t with errors := 7 })
    t.ports.t.errors = 0 ∧ t.ports.t.last.code = .ok := by decide

/-- A WRITE of GRANT fails OWNER at any byte count (R161). -/
theorem test_plain_write :
    (after (.write .c 0) (collect State.reset .c 0x28#8 5#8 [1#8, 1#8, 1#8])).ports.c.last.code = .owner := by
  decide

/-- A COMMIT of a section never written: FIELD_RANGE of field 1 of part 0 (R131, R135). -/
theorem test_commit_refused :
    (after (.commit .e 0) (collect State.reset .e 0x3A#8 1#8 [])).ports.e.last =
      { command := 3, cls := 10, index := 1, code := .invalid, detail1 := 1, detail2 := 0, detail3 := 1 } := by decide

/-- A COMMIT with two stray data bytes from E for section C fails LENGTH and not OWNER (R161). -/
theorem test_commit_length_before_owner :
    (after (.commit .e 0) (collect State.reset .e 0x3A#8 9#8 [0#8, 0#8])).ports.e.last.code = .length := by decide

/-- WITHDRAW clears the mark, and gives STATE where it is clear (R139). -/
theorem test_withdraw :
    (after (.withdraw .c 0) (collect startUp .c 0x4A#8 9#8 [])).plan.c.pending = false ∧
    (after (.withdraw .c 0) (collect State.reset .c 0x4A#8 9#8 [])).ports.c.last.code = .state := by decide

/-- The first ACK of spec 10.6: REFRESH 1, PLAN_APPLIED 2, PUBLISHED 13 and STATE_CHANGE 1 before it. -/
theorem test_ack :
    let s : State := { State.reset with events := { State.reset.events with
      e := { State.reset.events.e with counts := { State.reset.events.e.counts with
        refresh := 1, planApplied := 2, published := 13, stateChange := 1 } } } }
    let t := after (.ack .e 0)
      (collect s .e 0x53#8 0#8 [1#8, 0#8, 0#8, 0#8, 0#8, 0#8, 0#8, 0#8, 2#8, 0#8, 0#8, 0#8, 0#8, 0#8, 12#8, 0#8])
    (t.events.e.counts.refresh, t.events.e.counts.planApplied, t.events.e.counts.published,
      t.events.e.counts.stateChange, t.attention .e) = (0, 0, 1, 1, true) := by decide

/-- RESTART in CLOSED: a boundary at once, STATE_CHANGE to all (R16, R150). -/
theorem test_restart_in_closed :
    let t := after (.restart .c 0) (collect (clockAt .closed .free 150 false) .c 0x60#8 0#8 [])
    t.timer.delta = some 150 ∧ t.events.e.counts.stateChange = 1 ∧ t.ports.c.last.code = .ok := by decide

/-- RESTART at port E fails OWNER (R149). -/
theorem test_restart_at_e :
    (after (.restart .e 0) (collect State.reset .e 0x60#8 0#8 [])).ports.e.last.code = .owner := by decide

/-- FILL bytes and a partial byte fail FRAMING (R161). -/
theorem test_partial_byte_without_header :
    let s := after (.byteTaken .e 0#8) (after (.selectAssert .e) State.reset)
    (after (.unknownCommand .e 3) s).ports.e.last.code = .framing := by decide

/-- Command code 9 fails UNKNOWN (R157). -/
theorem test_unknown_command :
    (after (.unknownCommand .e 0) (collect State.reset .e 0x91#8 0#8 [])).ports.e.last.code = .unknown := by decide

/-- An empty exchange leaves the last result (R156). -/
theorem test_empty_exchange :
    let s := after (.unknownCommand .e 0) (collect State.reset .e 0x91#8 0#8 [])
    (after (.emptyExchange .e) (after (.selectAssert .e) s)).ports.e = s.ports.e := by decide

/-! ### States and operands that meet the statements' hypotheses -/

theorem witness_StepRunsFrontCommand :
    { State.reset with pending := [Instr.guardEnd] }.pending = .guardEnd :: [] ∧ State.reset.pending = [] :=
  ⟨rfl, rfl⟩

theorem witness_ResetSetsEveryBlockAndReleases :
    (after .deviceReset startUp).resetHeld = true ∧ startUp.resetHeld = false ∧
    ∃ t u, exec .deviceReset startUp = .next t ∧ exec (.resetRelease true) t = .next u :=
  ⟨rfl, rfl, _, _, rfl, rfl⟩

/-- The end of the start interval, and the requested boundary in START. -/
theorem witness_TimerTakesItsPositions_start :
    startUp.resetHeld = false ∧ startUp.timer.phase = .start ∧ startUp.timer.restartReq = false ∧
    startUp.timer.counter = 200 ∧
    let s := clockAt .start .free 20 true
    s.resetHeld = false ∧ s.timer.phase = .start ∧ s.timer.restartReq = true ∧ s.timer.counter = 20 := by decide

/-- The free boundary, the requested boundary in GUARD, and the guard end. -/
theorem witness_TimerTakesItsPositions_period :
    let a := clockAt .closed .free 200 false
    let b := clockAt .guarding .free 20 true
    let c := clockAt .guarding .synced 20 false
    (a.resetHeld = false ∧ a.timer.phase = .closed ∧ a.timer.mode = .free ∧ a.timer.counter = a.timer.p * 10) ∧
    (b.resetHeld = false ∧ b.timer.phase = .guarding ∧ b.timer.restartReq = true ∧ b.timer.counter = 20) ∧
    (c.resetHeld = false ∧ c.timer.phase = .guarding ∧ c.timer.restartReq = false ∧ c.timer.counter = 20) := by decide

/-- At a run count of 2, where SYNC_LOST is due. -/
theorem witness_SelfBoundaryCountsTheRun :
    let s := clockAt .closed .synced 250 false
    let s : State := { s with timer := { s.timer with runCount := 2 } }
    s.resetHeld = false ∧ s.timer.phase = .closed ∧ s.timer.mode = .synced ∧
    s.timer.counter = s.timer.p * 10 + s.timer.p * 10 / 4 := by decide

/-- A set in flight with a shortfall one above the threshold of a live section C, and one at it. -/
theorem witness_PublishPointPublishes :
    let at' := fun short => ({ clockAt .openPhase .synced 100 false with
      plan := livePlan,
      app := { State.reset.app with pendingSet := some { GrantSet.zero .running 0 with
        summary := { (GrantSet.zero .running 0).summary with shortfall := short } } } } : State)
    (∀ short ∈ [0, 2000, 2001], (at' short).resetHeld = false ∧ (at' short).timer.phase = .openPhase ∧
      (at' short).timer.counter = (at' short).timer.q * 10 ∧ (at' short).app.pendingSet ≠ none) ∧
    livePlan.c.live = some planC ∧ planC.shortThreshold < 2001 := by decide

/-- Each case of a SYNC edge: FREE mode, GUARD, OPEN and CLOSED. -/
theorem witness_SyncEdgeActsByPhase :
    let edge := fun s : State => ({ s with timer := { s.timer with syncEdge := true } } : State)
    let a := edge (clockAt .closed .free 150 false)
    let b := edge (clockAt .guarding .synced 10 false)
    let c := edge (clockAt .openPhase .synced 20 false)
    let d := edge (clockAt .closed .synced 100 false)
    (a.resetHeld = false ∧ a.timer.syncEdge = true ∧ a.timer.mode = .free) ∧
    (b.resetHeld = false ∧ b.timer.syncEdge = true ∧ b.timer.phase = .guarding) ∧
    (c.resetHeld = false ∧ c.timer.syncEdge = true ∧ c.timer.mode = .synced ∧ c.timer.phase = .openPhase) ∧
    (d.resetHeld = false ∧ d.timer.syncEdge = true ∧ d.timer.mode = .synced ∧ d.timer.phase = .closed) := by decide

/-- One tick before the guard end, and with RESET held. -/
theorem witness_TickAdvancesTheCounter :
    let s := clockAt .guarding .free 19 false
    s.resetHeld = false ∧ s.timer.due = none ∧ s.timer.syncEdge = false ∧
    (after .deviceReset s).resetHeld = true := by decide

theorem timerInRange_clockAt_publish (mode : SyncMode) : TimerInRange (clockAt .openPhase mode 100 false).timer := by
  refine ⟨?_, ?_, ?_, ?_, ?_, ?_, ?_, ?_, ?_, ?_, ?_, ?_⟩ <;> cases mode <;> decide

/-- An edge left untaken with no position due; the publish point left untaken, alone, with an edge in FREE mode, and with
an edge in SYNCED mode, where either draw of the free value meets one clause. -/
theorem witness_TickAdvancesTheCounter_untaken :
    let edge := fun s : State => ({ s with timer := { s.timer with syncEdge := true } } : State)
    let a := edge (clockAt .closed .free 150 false)
    (a.resetHeld = false ∧ a.timer.due = none ∧ a.timer.syncEdge = true) ∧
    (∀ mode, TimerInRange (clockAt .openPhase mode 100 false).timer ∧
      (clockAt .openPhase mode 100 false).resetHeld = false ∧
      (clockAt .openPhase mode 100 false).timer.syncEdge = false ∧
      (clockAt .openPhase mode 100 false).timer.due = some .publishPoint ∧
      TimerInRange (edge (clockAt .openPhase mode 100 false)).timer ∧
      (edge (clockAt .openPhase mode 100 false)).timer.due = some .publishPoint ∧
      (edge (clockAt .openPhase mode 100 false)).timer.mode = mode) ∧
    ∀ n, Config.syncEdgeFirst n = true ∨ Config.syncEdgeFirst n = false := by
  refine ⟨by decide, fun mode => ⟨timerInRange_clockAt_publish mode, rfl, rfl, rfl, timerInRange_clockAt_publish mode, rfl,
    rfl⟩, fun n => ?_⟩
  cases Config.syncEdgeFirst n <;> simp

theorem countsInRange_cruising : CountsInRange cruising := by intro p k; cases p <;> cases k <;> decide

theorem witness_BoundaryCopiesPendingSections : CountsInRange cruising := countsInRange_cruising

/-- The ends of the ranges of RAMP_RATE and P, and a RESTART with nothing pending. -/
theorem witness_RampStepFollowsItsSection :
    rampStep 1000 10 = 10 ∧ rampStep 400000 50 = 20000 ∧
    (let s := collect cruising .c 0x60#8 0#8 []
    Collected s .c 0x60#8 0#8 [] ∧ s.plan.e.pending = false ∧ s.plan.t.pending = false ∧
      ∃ t, exec (.restart .c 0) s = .next t) := by
  exact ⟨by decide, by decide, collected_collect .., rfl, rfl, _, rfl⟩

/-- The three engine states of a boundary: with no plan, with the reports of the grade, and with none. -/
theorem witness_BoundaryDecidesEngineState :
    (makeBoundary State.reset).app.engine = .unplanned ∧ (makeBoundary cruising).app.engine = .running ∧
    (makeBoundary { cruising with reports := Reports.reset }).app.engine = .fallback := by decide

/-- Latched AXLES in use, and not in use, with four live sections. -/
theorem witness_BoundaryDecidesEngineState_reports :
    InUse (makeBoundary cruising).latched.axles.state ∧
    ¬InUse (makeBoundary { cruising with reports := Reports.reset }).latched.axles.state ∧
    (makeBoundary cruising).plan.e.live.isSome = true ∧ (makeBoundary cruising).plan.t.live.isSome = true ∧
    (makeBoundary cruising).plan.b.live.isSome = true ∧ (makeBoundary cruising).plan.c.live.isSome = true := by
  unfold InUse; decide

/-- Reports and entries one boundary before the soft age and before the hard age. -/
theorem witness_AgeingPostsRefreshAndExpired :
    CountsInRange cruising ∧
    ({ cruising.reports.exhaust with age := 2 }.refreshes 3 10 = true) ∧
    ({ cruising.reports.exhaust with state := .aging, age := 9 }.expires 10 = true) ∧
    entryRefreshes 3 10 (some { value := 5, age := 2, mark := false }) = true ∧
    entryExpires 10 (some { value := 5, age := 9, mark := true }) = true :=
  ⟨countsInRange_cruising, by decide, by decide, by decide, by decide⟩

/-- The loop disabled, in RUNNING and in FALLBACK. -/
theorem witness_BoundaryRunsSpeedHold :
    let held : State := { cruising with demand := { cruising.demand with holdEnabled := true } }
    cruising.demand.holdEnabled = false ∧
    (held.demand.holdEnabled = true ∧ (makeBoundary held).app.engine = .running) ∧
    (makeBoundary { held with reports := Reports.reset }).app.engine = .fallback := by decide

/-- Section B live with AXLES in use and an achieved pressure, without AXLES, and section B not live. -/
theorem witness_BoundaryStepsHeatAccounts :
    let t := makeBoundary cruising
    let u := makeBoundary { cruising with reports := Reports.reset }
    (t.plan.b.live = some planB ∧ InUse t.latched.axles.state ∧
      (t.latched.axles.fields.axle.get .front).achieved = some 0 ∧ 0 < (planB.axles.get .front).cTh ∧
      0 * (planB.axles.get .front).gain ≤ 400000) ∧
    (u.plan.b.live = some planB ∧ u.plan.c.live = some planC ∧ ¬InUse u.latched.axles.state) ∧
    (makeBoundary State.reset).plan.b.live = none := by unfold InUse; decide

/-- The evaluator's boundaries: the engine is planned, and each shift case of R70 and R71 has its flag. -/
theorem witness_BoundaryUpdatesShiftAndSlip :
    let gap : Capability := { Capability.reset with shift := .gap, shiftElapsed := 7800, armed := false }
    let t := makeBoundary (driving gap true false true)
    t.app.engine ≠ .unplanned ∧ t.plan.t.live = some planT ∧ t.plan.b.live = some planB ∧
    InUse t.latched.trans.state ∧ t.latched.trans.fields.shifting = true ∧
    planT.shiftMax * 10 ≤ gap.shiftElapsed + (driving gap true false true).timer.counter ∧
    InUse t.latched.axles.state ∧ t.latched.axles.fields.axle.drive.slip = true := by unfold InUse; decide

/-- The slip cut from OFF, its end into the hold, and the hold one boundary from its end. -/
theorem witness_BoundaryUpdatesShiftAndSlip_cases :
    (makeBoundary (driving Capability.reset true false true)).cap.shift = .gap ∧
    (makeBoundary (driving Capability.reset false false true)).cap.slip = .cut ∧
    (makeBoundary (driving { Capability.reset with slip := .cut } false false false)).cap.slip = .hold ∧
    (makeBoundary (driving { Capability.reset with slip := .hold, holdElapsed := 400 } false false false)).cap.slip =
      .off := by decide

/-- Four live sections with a set in flight: every lane in use, and withheld by a slip cut. -/
theorem witness_BoundaryWorksOutCapacities :
    let t := makeBoundary cruising
    let u := makeBoundary (driving Capability.reset false false true)
    t.plan.e.live = some planE ∧ t.plan.t.live = some planT ∧ t.plan.b.live = some planB ∧ t.plan.c.live = some planC ∧
    t.app.pendingSet.isSome = true ∧ InUse t.latched.exhaust.state ∧ InUse t.latched.trans.state ∧
    InUse t.latched.axles.state ∧ t.cap.shift = .idle ∧ t.cap.stale = false ∧ t.cap.slip = .off ∧
    u.cap.slip ≠ .off := by unfold InUse; decide

/-- A retarder whose achieved torque is above F_MAX as a force, with four live sections; the greatest pressure at the
greatest gain with section B live alone; and section B not live. -/
theorem witness_BoundaryWorksOutCapacities_novalue :
    let r := cruising.reports
    let strong : TransFields := { r.trans.fields with achieved := some 32767 }
    let loud : State := { cruising with
      plan := { livePlan with t := { livePlan.t with live := some { planT with axleRatio := 4096 } } },
      reports := { r with trans := { r.trans with fields := strong } } }
    let front : AxlePlan := { planB.axles.front with gain := 400 }
    let full : AxlesFields := { r.axles.fields with
      axle := { r.axles.fields.axle with front := { pmax := 1200, achieved := some 1200, slip := false } } }
    let alone : State := { cruising with
      plan := { PlanStore.reset with
        b := { livePlan.b with live := some { planB with axles := { planB.axles with front := front } } } },
      reports := { r with axles := { r.axles with fields := full } } }
    ((makeBoundary loud).plan.e.live.isSome = true ∧ (makeBoundary loud).plan.t.live.isSome = true ∧
      (makeBoundary loud).plan.b.live.isSome = true ∧ (makeBoundary loud).plan.c.live.isSome = true ∧
      (makeBoundary loud).events.t.counts.novalue = 1 ∧ (makeBoundary loud).events.c.counts.novalue = 1) ∧
    ((makeBoundary alone).plan.b.live.isSome = true ∧ (makeBoundary alone).plan.e.live = none ∧
      (makeBoundary alone).events.b.counts.novalue = 1 ∧ (makeBoundary alone).events.c.counts.novalue = 1) ∧
    (makeBoundary State.reset).plan.b.live = none := by decide

theorem witness_BoundaryWorksOutCapacities_counts : CountsInRange cruising ∧ CountsInRange State.reset :=
  ⟨countsInRange_cruising, by intro p k; cases p <;> cases k <;> decide⟩

/-- The same state begins a computed set, in either order; the state at reset one of zeros. -/
theorem witness_BoundaryComputesTheGrants :
    let swapped : State := { cruising with plan := { cruising.plan with
      c := { cruising.plan.c with live := some { planC with order := 1 } } } }
    (makeBoundary State.reset).plan.e.live = none ∧ planC.order = 0 ∧
    (makeBoundary swapped).plan.c.live.map (·.order) = some 1 ∧
    (makeBoundary cruising).latched.exhaust.fields.achieved = some 0 ∧
    exhaustForce (roundingOfCode planE.rounding) 0 256 planT.axleRatio planT.radius = .newtons 0 :=
  ⟨rfl, rfl, by rfl, by rfl, by simp [exhaustForce, forceOf, roundDiv, planT, Config.fMax]⟩

/-- A frozen front axle, and axles without a SLIP flag. -/
theorem witness_BoundarySplitsTheRemainder :
    let t := makeBoundary (driving Capability.reset false true false)
    t.app.pendingSet.isSome = true ∧ InUse t.latched.axles.state ∧
    (t.latched.axles.fields.axle.get .front).slip = true ∧ (t.latched.axles.fields.axle.get .tag).slip = false := by
  unfold InUse; decide

/-- A pass over two axles, and one whose factors sum to 0. -/
theorem witness_SplitPassDividesTheWholeAmount :
    let axle := fun active factor => ({ active, factor, cap := 9, total := 0, cut := false } : SplitAxle)
    let x : PerAxle SplitAxle := { front := axle true 3, drive := axle false 8, tag := axle true 4 }
    let y : PerAxle SplitAxle := { front := axle false 3, drive := axle true 0, tag := axle true 0 }
    (x.get .front).active = true ∧ (passGives 10 x .front, passGives 10 x .drive, passGives 10 x .tag) = (4, 0, 6) ∧
    (y.get .drive).active = true ∧ (passGives 10 y .front, passGives 10 y .drive, passGives 10 y .tag) = (0, 10, 0) := by
  decide

/-- A front claim that fits exactly, and one a newton too great. -/
theorem witness_ServiceSplitServesClaimsThenShares :
    let x := fun v => ({
      front := { capacity := 5, cap := 5, factor := 1, frozen := some v }
      drive := { capacity := 9, cap := 9, factor := 1, frozen := none }
      tag := { capacity := 9, cap := 9, factor := 1, frozen := some 0 } } : PerAxle AxleInput)
    (x 7).drive.frozen = none ∧ (serviceSplit 7 (x 7)).front = { grant := 7, frozen := true, capped := false } ∧
    (serviceSplit 6 (x 7)).front = { grant := 5, frozen := false, capped := true } := by decide

/-- A pass with an axle below its cap and one at it, and a pass with none left in it. -/
theorem witness_ServiceSplitServesClaimsThenShares_passes :
    let axle := fun active cap => ({ active, factor := 1, cap, total := 0, cut := false } : SplitAxle)
    let x : SplitState := { axles := { front := axle true 3, drive := axle true 9, tag := axle false 0 }, pool := 8 }
    let y : SplitState := { axles := { front := axle false 0, drive := axle false 0, tag := axle false 0 }, pool := 8 }
    (∃ i, (x.axles.get i).active = true) ∧ (splitPass x).pool = 1 ∧
    (splitPass x).axles.front = { active := false, factor := 1, cap := 3, total := 3, cut := true } ∧
    (splitPass (splitPass x)).axles.drive.total = 5 ∧ (∀ i, (y.axles.get i).active = false) :=
  ⟨⟨.front, rfl⟩, by decide, by decide, by decide, fun i => by cases i <;> rfl⟩

theorem witness_RoundingModesRound :
    (0 : Int) < 2 ∧ (6 : Int) = 3 * 2 ∧ 2 * |(5 : Int) - roundDiv .nearestEven 5 2 * 2| = 2 ∧
    roundDiv .nearestEven 5 2 % 2 = 0 := by decide

/-- The edge of NOVALUE, a negative torque, and gear ratio 0. -/
theorem witness_TorqueBecomesForce :
    0 < 350 ∧ roundDiv .down (8750 * (4096 : Nat) * 1000) ((256 * 350 : Nat) : Int) = 400000 ∧
    retarderForce .down 8751 4096 350 = .novalue ∧ retarderForce .down (-1) 4096 350 = .newtons 0 ∧
    exhaustForce .down 32767 0 4096 350 = .newtons 0 := by decide

/-- A torque grant below its limit and one held at it; a pressure grant below its limit and one held at it. -/
theorem witness_UnitGrantsStayOnTheirSide :
    0 < 1050 ∧ retarderTorque 13830 1050 500 < 32767 ∧ exhaustTorque 400000 1 1050 500 = 32767 ∧ (1 : Nat) ≠ 0 ∧
    0 < 25 ∧ 2078 ≤ 1200 * 25 ∧ 0 < pressureGrant 2078 25 ∧ pressureGrant 30001 25 = 1200 := by decide

/-- An ascending curve, inputs outside it, at a point and between two points. -/
theorem witness_CurveInterpolates :
    planE.curve.Pairwise (fun p q => p.x < q.x) ∧
    planE.curve = [] ++ ⟨800, 300⟩ :: ⟨1400, 1000⟩ :: [⟨2200, 1560⟩] ∧ (800 : Int) < 801 ∧ (1399 : Int) < 1400 ∧
    planE.curve = [⟨800, 300⟩, ⟨1400, 1000⟩] ++ [⟨2200, 1560⟩] ∧ (2200 : Int) < 2201 ∧ (799 : Int) < 800 ∧
    ⟨1400, 1000⟩ ∈ planE.curve := by decide

/-- The greatest demand. -/
theorem witness_ResolvedDemandsAreOrdered :
    let x : Demand := { Demand.reset with pedal := some { value := 10000, age := 0, mark := false }, hold := some 4000 }
    (resolve planC 32000 x).d = 320000 ∧ planC.stalk.stage5 ≤ 4000 ∧ planC.stalk.stage1 ≤ 4000 := by decide

/-- A released and an asserted select, with and without RESET held. -/
theorem witness_SelectOpensAndEmptyExchangeLeavesNoTrace :
    let s := after (.selectAssert .t) State.reset
    (State.reset.resetHeld = false ∧ (State.reset.port .t).sel = false) ∧
    (after .deviceReset State.reset).resetHeld = true ∧ (s.port .t).sel = true ∧ (s.port .t).xch.h0 = none := by decide

/-- Every phase that a byte meets is reached by the bytes before it. -/
theorem witness_ByteActsByPhase :
    let a := after (.selectAssert .b) portB
    let b := after (.byteTaken .b 0x18#8) a
    let c := after (.byteTaken .b 3#8) b
    let d := after (.byteTaken .b 0xFF#8) c
    let e := after (.byteTaken .b 0xFF#8) d
    (portB.port .b).phase = .idle ∧ (a.port .b).phase = .inPrefix ∧ (b.port .b).phase = .inIndex ∧
    (b.port .b).xch.h0 = some 0x18#8 ∧ (c.port .b).phase = .inWait ∧ (c.port .b).snapshot.isSome = true ∧
    (d.port .b).phase = .readOut ∧ (e.port .b).phase = .ended := by decide

/-- DATA_IN with room for one more byte and with none, and a READ whose header names no record. -/
theorem witness_ByteActsByPhase_data :
    ((collect State.reset .e 0x27#8 0#8 (List.replicate 32 0#8)).port .e).phase = .dataIn ∧
    ((collect State.reset .e 0x27#8 0#8 (List.replicate 32 0#8)).port .e).xch.data.length = 32 ∧
    ((collect State.reset .e 0x27#8 0#8 (List.replicate 40 0#8)).port .e).xch.data.length = 33 ∧
    (after (.byteTaken .e 0#8) (after (.byteTaken .e 0x1F#8)
      (after (.selectAssert .e) State.reset))).ports.e.snapshot = none := by decide

theorem witness_BytesCollectTheExchange :
    State.reset.resetHeld = false ∧ (State.reset.port .c).sel = false ∧ (0x25#8 : Byte) ≠ 0 ∧
    (0x25#8 : Byte).toNat / 16 ≠ 1 ∧ (0x18#8 : Byte).toNat / 16 = 1 ∧
    (readRecord State.reset .c 8 5).isSome = true ∧ 0xFF#8 ∉ [0#8, 1#8] := by decide

/-- A good READ that ends at the last byte of its record. -/
theorem witness_ReadCompletesOrFailsInOrder :
    CollectedRead (collectRead portB .b 0x18#8 3#8 (sendGrant portB.app.published 3) 14) .b 0x18#8 3#8
      (sendGrant portB.app.published 3) 14 ∧
    classOfCode 8 = some .grant ∧ (3#8 : Byte).toNat ≤ lastIndex .grant ∧
    14 ≤ (sendGrant portB.app.published 3).length := by
  refine ⟨?_, by decide, by decide, by decide⟩
  unfold CollectedRead; decide

/-- READs that fail each check: a partial byte, a wait byte of 0, no termination byte, a byte too many, class 15. -/
theorem witness_ReadCompletesOrFailsInOrder_fails :
    let s := collectRead State.reset .b 0x1F#8 3#8 [1#8] 2
    let x := (s.port .b).xch
    let put := fun y => s.setPort .b { s.port .b with xch := y, snapshot := none }
    (s.port .b).phase ≠ .idle ∧ x.h0 = some 0x1F#8 ∧
    ((after (.read .b 3) s).port .b).last.code = .framing ∧
    ((after (.read .b 0) (put { x with wait := some 0#8 })).port .b).last.code = .wait ∧
    ((after (.read .b 0) (put { x with terminated := false })).port .b).last.code = .unterminated ∧
    ((after (.read .b 0) s).port .b).last.code = .overrun ∧
    ((after (.read .b 0) (put x)).port .b).last.code = .unknown := by decide

theorem witness_DemandWritesAreStored :
    Collected (collect State.reset .b 0x25#8 0#8 [1#8, 2#8]) .b 0x25#8 0#8 [1#8, 2#8] ∧
    Collected (collect State.reset .c 0x25#8 1#8 [0#8, 5#8]) .c 0x25#8 1#8 [0#8, 5#8] ∧
    Collected (collect State.reset .c 0x26#8 0#8 [1#8, 2#8, 3#8]) .c 0x26#8 0#8 [1#8, 2#8, 3#8] :=
  ⟨collected_collect .., collected_collect .., collected_collect ..⟩

theorem witness_DemandWritesAreStored_owner :
    Port.e ≠ .b ∧ Collected (collect State.reset .e 0x25#8 0#8 [1#8, 2#8]) .e 0x25#8 0#8 [1#8, 2#8] ∧
    Port.b ≠ .c ∧ Collected (collect State.reset .b 0x25#8 1#8 [1#8, 2#8]) .b 0x25#8 1#8 [1#8, 2#8] ∧
    Collected (collect State.reset .b 0x26#8 0#8 [1#8, 2#8, 3#8]) .b 0x26#8 0#8 [1#8, 2#8, 3#8] :=
  ⟨by decide, collected_collect .., by decide, collected_collect .., collected_collect ..⟩

/-- HOLD at two ports, and lengths just beside those of DEMAND and HOLD_SET. -/
theorem witness_DemandWritesAreStored_fails :
    (∀ p ∈ [Port.b, .c], Collected (collect State.reset p 0x25#8 2#8 [1#8, 2#8]) p 0x25#8 2#8 [1#8, 2#8]) ∧
    (∀ x ∈ [(0#8, [1#8]), (1#8, [1#8, 2#8, 3#8])],
      (x.1 : Byte).toNat ≤ 1 ∧ Collected (collect State.reset .b 0x25#8 x.1 x.2) .b 0x25#8 x.1 x.2 ∧ x.2.length ≠ 2) ∧
    ∀ x ∈ [[1#8, 2#8], [1#8, 2#8, 3#8, 4#8]],
      Collected (collect State.reset .c 0x26#8 0#8 x) .c 0x26#8 0#8 x ∧ x.length ≠ 3 := by
  refine ⟨fun _ _ => collected_collect .., fun x h => ⟨?_, collected_collect .., ?_⟩,
    fun x h => ⟨collected_collect .., ?_⟩⟩ <;> revert x <;> decide

/-- Each report at its owner with its length, one at another port, and one a byte too long. -/
theorem witness_ReportWritesAreStored :
    (∀ x ∈ [(Port.e, 0#8, 6), (.t, 1#8, 9), (.b, 2#8, 20), (.c, 3#8, 4), (.e, 1#8, 9), (.c, 0#8, 7)],
      Collected (collect State.reset x.1 0x27#8 x.2.1 (List.replicate x.2.2 1#8)) x.1 0x27#8 x.2.1
        (List.replicate x.2.2 1#8)) ∧
    portNumber .e ≠ (1#8 : Byte).toNat ∧ 7 ≠ [6, 9, 20, 4].getD (0#8 : Byte).toNat 0 :=
  ⟨fun _ _ => collected_collect .., by decide, by decide⟩

/-- A fixed part, the longest curve, an empty curve, a write at another port, and one while the mark is set. -/
theorem witness_StagedWriteReplacesThePart :
    (∀ x ∈ [(Port.e, 0#8, [0#8, 0#8, 0#8, 0#8, 0#8]), (.t, 3#8, 8#8 :: List.replicate 32 0#8), (.b, 8#8, [0#8]),
        (.c, 0#8, [0#8, 0#8, 0#8, 0#8, 0#8]), (.e, 1#8, [])],
      Collected (collect State.reset x.1 0x2A#8 x.2.1 x.2.2) x.1 0x2A#8 x.2.1 x.2.2) ∧
    State.reset.plan.e.pending = false ∧ startUp.plan.e.pending = true :=
  ⟨fun _ _ => collected_collect .., rfl, rfl⟩

theorem witness_SeedWriteSeedsOnce :
    Collected (collect startUp .b 0x2C#8 0#8 [0#8, 0#8, 0#8, 0#8, 0#8, 0#8, 0#8, 0#8, 0#8]) .b 0x2C#8 0#8
      [0#8, 0#8, 0#8, 0#8, 0#8, 0#8, 0#8, 0#8, 0#8] ∧
    Collected (collect startUp .b 0x2C#8 0#8 [1#8, 3#8, 132#8, 0#8, 0#8, 0#8, 9#8, 0xFF#8, 0#8]) .b 0x2C#8 0#8
      [1#8, 3#8, 132#8, 0#8, 0#8, 0#8, 9#8, 0xFF#8, 0#8] ∧
    (startUp.heat.accounts.get .front).seeded = true ∧ (startUp.heat.accounts.get .tag).seeded = false ∧
    Port.e ≠ .b :=
  ⟨collected_collect .., collected_collect .., rfl, rfl, by decide⟩

/-- A seed one byte short, and one with nine bytes at port E. -/
theorem witness_SeedWriteSeedsOnce_fails :
    Collected (collect startUp .b 0x2C#8 0#8 (List.replicate 8 1#8)) .b 0x2C#8 0#8 (List.replicate 8 1#8) ∧
    Collected (collect startUp .e 0x2C#8 0#8 (List.replicate 9 1#8)) .e 0x2C#8 0#8 (List.replicate 9 1#8) ∧
    (List.replicate 8 (1#8 : Byte)).length ≠ 9 ∧ (List.replicate 9 (1#8 : Byte)).length = 9 :=
  ⟨collected_collect .., collected_collect .., by decide, by decide⟩

/-- An EVENT_MASK of one byte, and a PORT_STATUS of two. -/
theorem witness_OwnRecordsAreWritten_fails :
    Collected (collect State.reset .c 0x24#8 3#8 [1#8]) .c 0x24#8 3#8 [1#8] ∧
    Collected (collect State.reset .c 0x22#8 3#8 [1#8, 0#8]) .c 0x22#8 3#8 [1#8, 0#8] :=
  ⟨collected_collect .., collected_collect ..⟩

theorem witness_OwnRecordsAreWritten :
    (∀ x ∈ [(Port.e, 0#8), (.c, 3#8), (.e, 3#8)],
      Collected (collect State.reset x.1 0x24#8 x.2 [1#8, 0#8]) x.1 0x24#8 x.2 [1#8, 0#8] ∧
      Collected (collect State.reset x.1 0x22#8 x.2 [0#8]) x.1 0x22#8 x.2 [0#8] ∧
      Collected (collect State.reset x.1 0x22#8 x.2 [1#8]) x.1 0x22#8 x.2 [1#8]) ∧
    portNumber .c = (3#8 : Byte).toNat ∧ portNumber .e ≠ (3#8 : Byte).toNat :=
  ⟨fun _ _ => ⟨collected_collect .., collected_collect .., collected_collect ..⟩, by decide, by decide⟩

/-- Unowned records at the ends of their index ranges. -/
theorem witness_UnownedAndUnknownExchangesFail_owner :
    ∀ x ∈ [(0x21#8, 0#8), (0x23#8, 3#8), (0x25#8, 2#8), (0x28#8, 5#8), (0x29#8, 2#8), (0x2B#8, 10#8)],
      Collected (collect State.reset .c x.1 x.2 []) .c x.1 x.2 [] :=
  fun _ _ => collected_collect ..

/-- Indices just past the ranges, class codes 0 and 13, and command codes 0 and 7. -/
theorem witness_UnownedAndUnknownExchangesFail_unknown :
    ∀ x ∈ [(0x20#8, 0#8), (0x2D#8, 0#8), (0x21#8, 1#8), (0x25#8, 3#8), (0x2B#8, 11#8), (0x01#8, 0#8), (0x70#8, 0#8)],
      Collected (collect State.reset .c x.1 x.2 []) .c x.1 x.2 [] :=
  fun _ _ => collected_collect ..

/-- The commands that end exchanges whose header names no pairing or an index out of range: an index just past each
range, a class of another command, and a command code with none. -/
theorem witness_UnownedAndUnknownExchangesFail_ends :
    ∀ x ∈ [(Instr.writeDemand .c 0, 0x25#8, 3#8), (.write .c 0, 0x25#8, 3#8), (.writeHoldSet .c 0, 0x26#8, 1#8),
        (.writeReport .c 0, 0x27#8, 4#8), (.writePlanStaged .c 0, 0x2A#8, 11#8), (.writeSeed .c 0, 0x2C#8, 1#8),
        (.writeEventMask .c 0, 0x24#8, 4#8), (.writePortStatus .c 0, 0x22#8, 4#8), (.write .c 0, 0x21#8, 1#8),
        (.commit .c 0, 0x3A#8, 11#8), (.commit .c 0, 0x35#8, 0#8), (.withdraw .c 0, 0x4A#8, 11#8),
        (.ack .c 0, 0x53#8, 4#8), (.restart .c 0, 0x61#8, 0#8), (.restart .c 0, 0x60#8, 1#8),
        (.unknownCommand .c 0, 0x71#8, 0#8)],
      Collected (collect State.reset .c x.2.1 x.2.2 [9#8]) .c x.2.1 x.2.2 [9#8] ∧
      EndsExchange (collect State.reset .c x.2.1 x.2.2 [9#8]) .c 0 x.1 ∧ (x.2.1 : Byte).toNat / 16 ≠ 1 := by
  intro x h
  refine ⟨collected_collect .., ?_, ?_⟩ <;> simp only [List.mem_cons, List.not_mem_nil, or_false] at h <;>
    rcases h with rfl | rfl | rfl | rfl | rfl | rfl | rfl | rfl | rfl | rfl | rfl | rfl | rfl | rfl | rfl | rfl <;>
    simp [EndsExchange, collect, State.port, State.setPort, PerPort.get, PerPort.set]

/-- The select released after H0: no H1 has arrived. -/
theorem witness_UnownedAndUnknownExchangesFail_noH1 :
    let s := after (.byteTaken .c 0x3A#8) (after (.selectAssert .c) State.reset)
    (s.port .c).phase = .inIndex ∧ (s.port .c).xch.h0 = some 0x3A#8 ∧ (s.port .c).xch.h1 = none ∧
    (s.port .c).xch.bits % 8 = 0 ∧ (s.port .c).xch.h0.map (·.toNat / 16) = some 3 ∧
    (after (.commit .c 0) s).ports.c.last.code = .unknown := by decide

/-- A partial byte before any header. -/
theorem witness_UnownedAndUnknownExchangesFail_framing :
    let s := after (.selectAssert .e) State.reset
    (s.port .e).phase = .inPrefix ∧ (s.port .e).xch.h0 = none ∧ (s.port .e).xch.h1 = none ∧
    ((s.port .e).xch.bits + 1) % 8 ≠ 0 := by decide

/-- COMMIT and WITHDRAW by the owner with the mark clear and set, by another port, and with data bytes. -/
theorem witness_CommitAndWithdrawMoveTheMark :
    (∀ h0 ∈ [0x3A#8, 0x4A#8],
      Collected (collect State.reset .e h0 1#8 []) .e h0 1#8 [] ∧ Collected (collect startUp .c h0 10#8 []) .c h0 10#8 [] ∧
      Collected (collect startUp .e h0 10#8 []) .e h0 10#8 [] ∧
      Collected (collect startUp .e h0 0#8 [0#8]) .e h0 0#8 [0#8]) ∧
    State.reset.plan.e.pending = false ∧ (checkE State.reset.plan.e.staged).isSome = true ∧
    startUp.plan.c.pending = true ∧ checkC planC = none ∧ checkE planE = none ∧ checkT planT = none ∧
    checkB planB = none :=
  ⟨fun _ _ => ⟨collected_collect .., collected_collect .., collected_collect .., collected_collect ..⟩, rfl, by decide,
    rfl, by decide, by decide, by decide, by decide⟩

theorem witness_AckLowersTheCounts :
    Collected (collect portB .b 0x53#8 2#8 (List.replicate 16 3#8)) .b 0x53#8 2#8 (List.replicate 16 3#8) ∧
    Collected (collect portB .b 0x53#8 2#8 (List.replicate 15 3#8)) .b 0x53#8 2#8 (List.replicate 15 3#8) ∧
    Collected (collect portB .b 0x53#8 3#8 (List.replicate 16 3#8)) .b 0x53#8 3#8 (List.replicate 16 3#8) ∧
    portNumber .b = (2#8 : Byte).toNat ∧ portNumber .b ≠ (3#8 : Byte).toNat :=
  ⟨collected_collect .., collected_collect .., collected_collect .., by decide, by decide⟩

/-- RESTART in START at tick 19 and at tick 20, in GUARD, OPEN and CLOSED, and at another port. -/
theorem witness_RestartClearsAndRequestsABoundary :
    ∀ s ∈ [clockAt .start .free 19 false, clockAt .start .free 20 false, clockAt .guarding .synced 5 false,
        clockAt .openPhase .synced 50 false, clockAt .closed .free 150 false],
      Collected (collect s .c 0x60#8 0#8 []) .c 0x60#8 0#8 [] ∧
      Collected (collect s .e 0x60#8 0#8 []) .e 0x60#8 0#8 [] ∧ Port.e ≠ .c :=
  fun _ _ => ⟨collected_collect .., collected_collect .., by decide⟩

/-- RESTART with a data byte. -/
theorem witness_RestartClearsAndRequestsABoundary_length :
    [0#8] ≠ ([] : List Byte) ∧ Collected (collect State.reset .c 0x60#8 0#8 [0#8]) .c 0x60#8 0#8 [0#8] :=
  ⟨by decide, collected_collect ..⟩

/-- A partial byte after an exchange of every command and of every class of a WRITE. -/
theorem witness_PartialBytesFailFraming :
    ∀ h0 ∈ [0x18#8, 0x25#8, 0x26#8, 0x27#8, 0x2A#8, 0x2C#8, 0x24#8, 0x22#8, 0x28#8, 0x3A#8, 0x4A#8, 0x53#8, 0x60#8,
        0x91#8],
      let s := collect State.reset .e h0 0#8 []
      (s.port .e).phase ≠ .idle ∧ (s.port .e).xch.h0 = some h0 ∧ ((s.port .e).xch.bits + 7) % 8 ≠ 0 := by decide

/-- A release that ends the exchange open at its port, one of another kind there, and one at a port at IDLE. -/
theorem witness_ExchangesActWholeOrNotAtAll :
    let s := collect State.reset .b 0x25#8 0#8 [1#8, 2#8]
    Port.e ≠ .b ∧ (∃ t, exec (.writeDemand .b 0) s = .next t) ∧ EndsExchange s .b 0 (.writeDemand .b 0) ∧
    ¬EndsExchange s .b 0 (.commit .b 0) ∧ ¬EndsExchange State.reset .b 0 (.writeDemand .b 0) := by
  refine ⟨by decide, ⟨_, rfl⟩, ?_, ?_, ?_⟩
  · simp [EndsExchange, collect, State.port, State.setPort, PerPort.get, PerPort.set]
  · simp [EndsExchange, collect, State.port, State.setPort, PerPort.get, PerPort.set]
  · exact fun h => h.1 rfl

theorem witness_PostingsRaiseCounts :
    Port.b ∈ allPorts ∧ Port.b ∈ [Port.b, .c] ∧ portB.events.b.counts.get .published = 3 ∧
    ({ portB.events.b with counts := { portB.events.b.counts with published := 255 } }).counts.get .published = 255 := by
  decide

/-- A fixed part and the longest curve. -/
theorem witness_StagedPartReadsBackAsWritten :
    partLength 9 (List.replicate 24 0#8) = some 24 ∧ partLength 1 (8#8 :: List.replicate 32 1#8) = some 33 := by decide

theorem witness_RecordsHaveTheirLengths :
    (readRecord State.reset .e 11 10).isSome = true ∧ (readRecord State.reset .e 12 0).isSome = false ∧
    (readRecord State.reset .e 1 1).isSome = false := by decide

theorem witness_GrantRecordsAreLaidOut :
    let g := GrantSet.zero .running 65535
    g.periodIndex < 65536 ∧ ([g.exhaust, g.retarder, g.service.front, g.service.drive, g.service.tag][4]?).isSome = true ∧
    g.service.tag.grantN < 2 ^ 32 ∧ g.summary.shortfall < 2 ^ 32 := by decide

/-- A state on the grade meets the invariants on counts, ports, temperatures and the plan, and has a next state. -/
theorem witness_CountsStayInRange :
    CountsInRange cruising ∧ ErrorsInRange cruising ∧ DataInRange cruising ∧ ∃ t, step cruising = .next t :=
  ⟨countsInRange_cruising, by intro p; cases p <;> decide, by intro p; cases p <;> decide, _, rfl⟩

theorem witness_TemperaturesStayInRange :
    HeatInRange cruising ∧ ∃ t, step { cruising with pending := [Instr.selfBoundary] } = .next t := by
  refine ⟨⟨?_, ?_⟩, _, rfl⟩
  · intro i; cases i <;> decide
  · unfold AmbientInRange; decide

theorem planChecked_cruising : PlanChecked cruising := by
  refine ⟨⟨?_, by decide⟩, ⟨?_, by decide⟩, ⟨?_, by decide⟩, ⟨?_, by decide⟩⟩ <;> intro v h <;> cases h <;> decide

theorem witness_LivePlanStaysChecked :
    PlanChecked cruising ∧ ∃ t, step { cruising with pending := [Instr.selfBoundary] } = .next t :=
  ⟨planChecked_cruising, _, rfl⟩

theorem witness_TimerStaysInRange :
    TimerInRange cruising.timer ∧ PlanChecked cruising ∧ ∃ t, step { cruising with pending := [.tick true] } = .next t := by
  refine ⟨⟨by decide, by decide, by decide, by decide, by decide, by decide, by decide, ?_, by decide, by decide,
    by decide, by decide⟩, planChecked_cruising, _, rfl⟩
  intro d h; cases h; decide

theorem witness_PendingSetMatchesThePhase :
    PendingMatchesPhase cruising ∧ IndexMatches cruising ∧
    ∃ t, step { cruising with pending := [Instr.selfBoundary] } = .next t :=
  ⟨rfl, rfl, _, rfl⟩

theorem witness_IntegratorAndAgesStayInRange :
    IntegratorInRange cruising ∧ AgesInRange cruising ∧ PlanChecked cruising ∧ ∃ t, step cruising = .next t := by
  refine ⟨Nat.zero_le _, ⟨?_, ?_, by decide, by decide, by decide⟩, planChecked_cruising, _, rfl⟩ <;> intro x h <;>
    cases h
  decide

theorem witness_GrantSetsStayBalanced :
    SetsBalanced cruising ∧ InvalidSetsAreZero cruising ∧ UnplannedIsInvalid cruising ∧ ∃ t, step cruising = .next t := by
  refine ⟨⟨?_, ?_⟩, ⟨?_, ?_⟩, ⟨(fun h => by cases h), (by decide), ?_⟩, _, rfl⟩
  · refine ⟨by decide, by decide, by decide, by decide, by decide, ?_, ?_, ?_⟩ <;> exact Or.inl (by decide)
  · intro g h; cases h
  · intro _; exact ⟨rfl, rfl, rfl, rfl, rfl⟩
  · intro g h; cases h
  · intro g h; cases h

theorem witness_EnduranceGrantsRiseByAStep : RampBounded cruising ∧ ∃ t, step cruising = .next t := by
  refine ⟨⟨rfl, rfl, ?_⟩, _, rfl⟩
  intro g h; cases h

/-- A state with every section live, both steps, a seeded account, and a command that is not a device reset. -/
theorem witness_OnlyDeviceResetForgets :
    let s : State := { cruising with heat := startUp.heat }
    Instr.selfBoundary ≠ .deviceReset ∧ s.plan.e.live.isSome = true ∧ s.plan.t.live.isSome = true ∧
    s.plan.b.live.isSome = true ∧ s.plan.c.live.isSome = true ∧ s.plan.stepE.isSome = true ∧
    s.plan.stepT.isSome = true ∧ (s.heat.accounts.get .front).seeded = true ∧ s.resetHeld = false := by decide

theorem witness_OnlyDeviceResetForgets_counts :
    CountsInRange cruising ∧ (∀ p stray, Instr.selfBoundary ≠ .ack p stray) ∧
    (∀ p stray, Instr.selfBoundary ≠ .writeEventMask p stray) ∧ ∃ t, exec .selfBoundary cruising = .next t :=
  ⟨countsInRange_cruising, by intros; simp, by intros; simp, _, rfl⟩

end Sys2Proof.Tests
end

section
/-! PROOFS. The blend period (chapter 1): the self-boundary at the SYNC deadline and the publish point. -/

namespace Sys2Proof.Machine

open Sys2Proof

/-! ### Position commands -/

/-- What a position command does where RESET is released and its position is due. -/
theorem takeIfDue_of_due {x : Position} {s : State} (hreset : s.resetHeld = false) (hdue : s.timer.due = some x) :
    takeIfDue x s = takePosition x s := by
  simp [takeIfDue, hreset, hdue]

theorem exec_selfBoundary (s : State) : exec .selfBoundary s = .next (takeIfDue .syncDeadline s) := rfl

theorem exec_publishPoint (s : State) : exec .publishPoint s = .next (takeIfDue .publishPoint s) := rfl

/-! ### Postings to every port -/

@[simp] theorem mem_allPorts (p : Port) : p ∈ allPorts := by cases p <;> decide

/-! ### The timer through a boundary (R3, R5) -/

@[simp] theorem Timer.takePeriod_delta (x : Timer) (c : Option PlanC) : (x.takePeriod c).delta = x.delta := by
  cases c <;> rfl

/-- A boundary stamps the elapsed time, and then takes the values of section C as copied; no later stage reaches the
timer. -/
theorem makeBoundary_timer (s : State) :
    (makeBoundary s).timer = s.timer.stamped.takePeriod s.plan.copied.c.live := by
  simp [makeBoundary]

@[simp] theorem makeBoundary_timer_delta (s : State) : (makeBoundary s).timer.delta = some s.timer.counter := by
  simp [makeBoundary_timer, Timer.stamped]

/-! ### The self-boundary (R14, R15) -/

/-- The state of which the SYNC deadline makes its boundary: the run is counted, and SYNC_LOST posted where it has
become 3. -/
def countSelfBoundary (s : State) : State :=
  { s.postIf (decide (s.timer.runCount = 2)) .syncLost [.b, .c] with
    timer := { s.timer with runCount := min 3 (s.timer.runCount + 1) } }

theorem takeSyncDeadline_eq (s : State) : takeSyncDeadline s = makeBoundary (countSelfBoundary s) := rfl

theorem countSelfBoundary_frame (s : State) :
    countSelfBoundary s =
      { s with timer := { s.timer with runCount := min 3 (s.timer.runCount + 1) },
               events := (countSelfBoundary s).events } := by
  simp [countSelfBoundary]

@[simp] theorem countSelfBoundary_mask (s : State) (p : Port) :
    ((countSelfBoundary s).events.get p).mask = (s.events.get p).mask :=
  State.postIf_mask _ _ _ s p

theorem countSelfBoundary_count (s : State) (p : Port) (k : EventKind) :
    ((countSelfBoundary s).events.get p).counts.get k =
      if s.timer.runCount = 2 ∧ (p = .b ∨ p = .c) ∧ k = .syncLost then bump ((s.events.get p).counts.get k)
      else (s.events.get p).counts.get k := by
  simp [countSelfBoundary, State.postIf_count]

/-- Settles O5: the deadline is due, so the command makes the boundary of the state that `countSelfBoundary` gives. -/
theorem selfBoundaryCountsTheRun : Obligations.SelfBoundaryCountsTheRun := by
  intro s hreset hphase hmode hcounter
  have hdue : s.timer.due = some .syncDeadline := due_syncDeadline_iff.mpr ⟨hphase, hmode, hcounter.ge⟩
  refine ⟨countSelfBoundary s, ?command, ?elapsed, ⟨_, countSelfBoundary_frame s⟩, countSelfBoundary_mask s,
    countSelfBoundary_count s⟩
  case command => rw [exec_selfBoundary, takeIfDue_of_due hreset hdue]; rfl
  case elapsed => rw [makeBoundary_timer_delta, ← hcounter]; rfl

/-! ### The shortfall run (R97) -/

theorem nextRun_of_short {threshold shortfall : Nat} (run : Nat) (h : threshold < shortfall) :
    nextRun threshold shortfall run = min 50 (run + 1) := if_pos h

theorem nextRun_of_not_short {threshold shortfall : Nat} (run : Nat) (h : shortfall ≤ threshold) :
    nextRun threshold shortfall run = 0 := if_neg (Nat.not_lt.mpr h)

theorem nextRunPosted_of_short {threshold shortfall : Nat} (count run : Nat) (posted : Bool)
    (h : threshold < shortfall) :
    nextRunPosted threshold count shortfall run posted =
      (posted || decide (count ≤ nextRun threshold shortfall run)) := by
  simp [nextRunPosted, h]

theorem nextRunPosted_of_not_short {threshold shortfall : Nat} (count run : Nat) (posted : Bool)
    (h : shortfall ≤ threshold) : nextRunPosted threshold count shortfall run posted = false := by
  simp [nextRunPosted, h]

theorem PlanStore.shortLimits_of_live {x : PlanStore} {c : PlanC} (h : x.c.live = some c) :
    x.shortLimits = (c.shortThreshold, c.shortCount) := by
  simp [PlanStore.shortLimits, h]

/-! ### Publication (R97, R102) -/

section Publish

variable {s : State} {g : GrantSet} (index : Nat)

/-- The apportioner after a set in flight is published. -/
theorem publishSet_app (h : s.app.pendingSet = some g) :
    (publishSet index s).app =
      { pendingSet := none,
        published := { g with periodIndex := index, valid := decide (g.summary.state ≠ .unplanned) },
        prevE := g.exhaust.grantN, prevR := g.retarder.grantN,
        runCount := nextRun s.plan.shortLimits.1 g.summary.shortfall s.app.runCount,
        runPosted := nextRunPosted s.plan.shortLimits.1 s.plan.shortLimits.2 g.summary.shortfall s.app.runCount
          s.app.runPosted,
        engine := s.app.engine } := by
  simp [publishSet, h]

/-- A publication changes the apportioner and the event units alone. -/
theorem publishSet_frame (s : State) (index : Nat) :
    publishSet index s =
      { s with app := (publishSet index s).app, events := (publishSet index s).events } := by
  unfold publishSet
  split
  · rfl
  · simp

@[simp] theorem publishSet_mask (s : State) (index : Nat) (p : Port) :
    ((publishSet index s).events.get p).mask = (s.events.get p).mask := by
  unfold publishSet
  split <;> simp

/-- PUBLISHED goes to every port, and SHORTFALL where the run-posted mark goes from clear to set. -/
theorem publishSet_count (h : s.app.pendingSet = some g) (p : Port) (k : EventKind) :
    ((publishSet index s).events.get p).counts.get k =
      if k = .published ∨ (k = .shortfall ∧ (publishSet index s).app.runPosted = true ∧ s.app.runPosted = false)
      then bump ((s.events.get p).counts.get k) else (s.events.get p).counts.get k := by
  rw [publishSet_app index h]
  simp only [publishSet, h, State.postIf_count, State.post_count, mem_allPorts, true_and]
  by_cases hp : k = .published
  · simp [hp]
  · by_cases hk : k = .shortfall <;> simp [hp, hk]

/-- The shortfall run by the live section C. -/
theorem publishSet_run_of_live (h : s.app.pendingSet = some g) {c : PlanC} (hc : s.plan.c.live = some c) :
    (c.shortThreshold < g.summary.shortfall →
      (publishSet index s).app.runCount = min 50 (s.app.runCount + 1) ∧
      (publishSet index s).app.runPosted =
        (s.app.runPosted || decide (c.shortCount ≤ (publishSet index s).app.runCount))) ∧
    (g.summary.shortfall ≤ c.shortThreshold →
      (publishSet index s).app.runCount = 0 ∧ (publishSet index s).app.runPosted = false) := by
  rw [publishSet_app index h, PlanStore.shortLimits_of_live hc]
  exact ⟨fun hs => ⟨nextRun_of_short _ hs, nextRunPosted_of_short _ _ _ hs⟩,
    fun hs => ⟨nextRun_of_not_short _ hs, nextRunPosted_of_not_short _ _ _ hs⟩⟩

/-- A set without shortfall ends the run, whatever the threshold. -/
theorem publishSet_run_of_no_shortfall (h : s.app.pendingSet = some g) (hs : g.summary.shortfall = 0) :
    (publishSet index s).app.runCount = 0 ∧ (publishSet index s).app.runPosted = false := by
  rw [publishSet_app index h]
  exact ⟨nextRun_of_not_short _ (hs.trans_le (Nat.zero_le _)),
    nextRunPosted_of_not_short _ _ _ (hs.trans_le (Nat.zero_le _))⟩

end Publish

/-! ### The publish point (R9) -/

theorem takePublishPoint_frame (s : State) :
    takePublishPoint s =
      { s with
        timer := { s.timer with index := (s.timer.index + 1) % 65536, phase := .closed },
        app := (publishSet (nextIndex s.timer.index) s).app,
        events := (publishSet (nextIndex s.timer.index) s).events } := by
  unfold takePublishPoint
  rw [publishSet_frame]
  rfl

/-- Settles O6: the publish point is due, and the apportioner publishes its set under the next index. -/
theorem publishPointPublishes : Obligations.PublishPointPublishes := by
  intro s g hreset hphase hcounter hset
  have hdue : s.timer.due = some .publishPoint := due_publishPoint_iff.mpr ⟨hphase, hcounter.ge⟩
  have happ := publishSet_app (nextIndex s.timer.index) hset
  refine ⟨takePublishPoint s, ?command, ⟨_, _, takePublishPoint_frame s⟩, congrArg (·.published) happ,
    congrArg (·.pendingSet) happ, congrArg (·.prevE) happ, congrArg (·.prevR) happ, congrArg (·.engine) happ,
    fun c hc => publishSet_run_of_live _ hset hc, publishSet_run_of_no_shortfall _ hset, publishSet_mask s _,
    publishSet_count _ hset⟩
  case command => rw [exec_publishPoint, takeIfDue_of_due hreset hdue]; rfl

end Sys2Proof.Machine
end

section
/-! PROOFS. The conversion unit (chapter 2): the rounding modes and the curves. -/

namespace Sys2Proof.Machine

open Sys2Proof

/-! ### The rounding modes (R21) -/

theorem roundDiv_of_eq_mul (m : Rounding) {n q d : Int} (hd : 0 < d) (h : n = q * d) : roundDiv m n d = q := by
  rw [h, roundDiv_whole m (Int.mul_emod_left q d), Int.mul_ediv_cancel q hd.ne']

@[simp] theorem roundDiv_down (n d : Int) : roundDiv .down n d = n / d := by simp [roundDiv]

theorem roundDiv_up (n d : Int) : roundDiv .up n d = if n % d = 0 then n / d else n / d + 1 := rfl

theorem roundDiv_towardZero_of_nonneg {n : Int} (d : Int) (h : 0 ≤ n) :
    roundDiv .towardZero n d = roundDiv .down n d := by
  simp [roundDiv, h]

/-- A dividend of 0 has a whole quotient, so at the edge both modes agree. -/
theorem roundDiv_towardZero_of_nonpos {n : Int} (d : Int) (h : n ≤ 0) :
    roundDiv .towardZero n d = roundDiv .up n d := by
  obtain rfl | hneg := h.eq_or_lt
  · simp [roundDiv]
  · simp [roundDiv, hneg.not_ge]

theorem roundDiv_down_bounds (n : Int) {d : Int} (hd : 0 < d) :
    roundDiv .down n d * d ≤ n ∧ n < (roundDiv .down n d + 1) * d := by
  rw [roundDiv_down]
  exact ⟨Int.ediv_mul_le n hd.ne', Int.lt_ediv_add_one_mul_self n hd⟩

/-- The dividend against the integer above the quotient's floor; against the floor itself it is `Int.emod_def`. -/
theorem sub_ediv_add_one_mul (n d : Int) : n - (n / d + 1) * d = n % d - d := by
  linarith [Int.ediv_mul_add_emod n d]

theorem roundDiv_up_bounds (n : Int) {d : Int} (hd : 0 < d) :
    (roundDiv .up n d - 1) * d < n ∧ n ≤ roundDiv .up n d * d := by
  have hfloor := Int.ediv_mul_add_emod n d
  rw [roundDiv_up]
  split
  case isTrue hwhole => constructor <;> linarith
  case isFalse hpart =>
    have hpos : 0 < n % d := (Int.emod_nonneg n hd.ne').lt_of_ne' hpart
    have hlt := Int.emod_lt_of_pos n hd
    constructor <;> linarith

/-- NEAREST_EVEN gives the floor of the quotient or the integer above it, by the exact test of twice the remainder
against the divisor; at a tie, the even one of the two. -/
theorem roundDiv_nearestEven_cases (n : Int) {d : Int} (hd : 0 < d) :
    (roundDiv .nearestEven n d = n / d ∧ 2 * (n % d) ≤ d ∧ (2 * (n % d) = d → n / d % 2 = 0)) ∨
    (roundDiv .nearestEven n d = n / d + 1 ∧ d ≤ 2 * (n % d) ∧ (2 * (n % d) = d → (n / d + 1) % 2 = 0)) := by
  simp only [roundDiv]
  split
  case isTrue hwhole => exact .inl ⟨rfl, by omega, by omega⟩
  case isFalse =>
    split
    case isTrue hbelow => exact .inl ⟨rfl, hbelow.le, fun htie => absurd htie hbelow.ne⟩
    case isFalse hreach =>
      split
      case isTrue habove => exact .inr ⟨rfl, habove.le, fun htie => absurd htie habove.ne'⟩
      case isFalse =>
        split
        case isTrue heven => exact .inl ⟨rfl, by omega, fun _ => heven⟩
        case isFalse hodd => exact .inr ⟨rfl, by omega, by omega⟩

theorem roundDiv_nearestEven_nearest (n : Int) {d : Int} (hd : 0 < d) :
    2 * |n - roundDiv .nearestEven n d * d| ≤ d ∧
    (2 * |n - roundDiv .nearestEven n d * d| = d → roundDiv .nearestEven n d % 2 = 0) := by
  obtain ⟨hr, hle, htie⟩ | ⟨hr, hle, htie⟩ := roundDiv_nearestEven_cases n hd
  · rw [hr, mul_comm (n / d) d, ← Int.emod_def, abs_of_nonneg (Int.emod_nonneg n hd.ne')]
    exact ⟨hle, htie⟩
  · rw [hr, sub_ediv_add_one_mul, abs_of_neg (sub_neg.mpr (Int.emod_lt_of_pos n hd))]
    exact ⟨by omega, fun h => htie (by omega)⟩

/-- Settles O25, mode by mode. -/
theorem roundingModesRound : Obligations.RoundingModesRound :=
  fun n d hd => ⟨fun m _ h => roundDiv_of_eq_mul m hd h, roundDiv_down_bounds n hd, roundDiv_up_bounds n hd,
    roundDiv_towardZero_of_nonneg d, roundDiv_towardZero_of_nonpos d, roundDiv_nearestEven_nearest n hd⟩

/-- Rounding in any mode keeps integer bounds on the quotient. -/
theorem roundDiv_mem_Icc (m : Rounding) {n d lo hi : Int} (hd : 0 < d) (hlo : lo * d ≤ n) (hhi : n ≤ hi * d) :
    lo ≤ roundDiv m n d ∧ roundDiv m n d ≤ hi := by
  obtain ⟨hfloor, hceil⟩ := roundDiv_between m n d
  refine ⟨((Int.le_ediv_iff_mul_le hd).mpr hlo).trans hfloor, ?_⟩
  obtain hwhole | hbelow := hhi.eq_or_lt
  · exact (roundDiv_of_eq_mul m hd hwhole).le
  · exact hceil.trans ((Int.ediv_lt_iff_lt_mul hd).mpr hbelow)

/-! ### Curves (R34) -/

section Curve

variable (m : Rounding) {x : Int} {p q : Point} (rest : List Point)

theorem curveAt_of_le_first (h : x ≤ p.x) : curveAt m x (p :: rest) = p.y := by
  cases rest with
  | nil => rfl
  | cons q rest => simp [curveAt, h]

theorem curveAt_of_between_first (hp : p.x < x) (hq : x < q.x) :
    curveAt m x (p :: q :: rest) = p.y + roundDiv m ((q.y - p.y) * (x - p.x)) (q.x - p.x) := by
  simp [curveAt, hp.not_ge, hq]

theorem curveAt_of_second_le (hpq : p.x < q.x) (hq : q.x ≤ x) :
    curveAt m x (p :: q :: rest) = curveAt m x (q :: rest) := by
  simp [curveAt, (hpq.trans_le hq).not_ge, hq.not_gt]

/-- The points before one that x has reached do not matter. -/
theorem curveAt_append {front : List Point} (hasc : (front ++ p :: rest).Pairwise (fun a b => a.x < b.x))
    (hp : p.x ≤ x) : curveAt m x (front ++ p :: rest) = curveAt m x (p :: rest) := by
  induction front with
  | nil => rfl
  | cons a front ih =>
    obtain ⟨ha, htail⟩ := List.pairwise_cons.mp hasc
    rw [← ih htail]
    cases front with
    | nil => exact curveAt_of_second_le m rest (ha p (by simp)) hp
    | cons b front =>
      have hbp : b.x < p.x := List.rel_of_pairwise_cons htail (by simp)
      exact curveAt_of_second_le m _ (ha b (by simp)) (hbp.le.trans hp)

/-- The rounded quotient of R34 lies between 0 and the rise from one point's y to the next's. -/
theorem interpolated_mem_Icc (hp : p.x < x) (hq : x < q.x) :
    min p.y q.y ≤ p.y + roundDiv m ((q.y - p.y) * (x - p.x)) (q.x - p.x) ∧
    p.y + roundDiv m ((q.y - p.y) * (x - p.x)) (q.x - p.x) ≤ max p.y q.y := by
  have hd : 0 < q.x - p.x := by omega
  have hx : 0 ≤ x - p.x := by omega
  have hxd : x - p.x ≤ q.x - p.x := by omega
  obtain hrise | hfall := le_total p.y q.y
  · have hdy : 0 ≤ q.y - p.y := by omega
    have := roundDiv_mem_Icc m hd (lo := 0) (by simpa using mul_nonneg hdy hx) (mul_le_mul_of_nonneg_left hxd hdy)
    omega
  · have hdy : q.y - p.y ≤ 0 := by omega
    have := roundDiv_mem_Icc m hd (hi := 0) (mul_le_mul_of_nonpos_left hxd hdy)
      (by simpa using mul_nonpos_of_nonpos_of_nonneg hdy hx)
    omega

end Curve

/-- Settles O28: the points that x has passed are dropped, and one equation of `curveAt` answers. -/
theorem curveInterpolates : Obligations.CurveInterpolates := by
  intro m x points hasc
  refine ⟨?below, ?above, ?atPoint, ?between⟩
  case below =>
    rintro p rest rfl hx
    exact curveAt_of_le_first m rest hx.le
  case above =>
    rintro front p rfl hx
    rw [curveAt_append m [] hasc hx.le, curveAt_single]
  case atPoint =>
    rintro p hp rfl
    obtain ⟨front, rest, rfl⟩ := List.append_of_mem hp
    rw [curveAt_append m rest hasc le_rfl, curveAt_of_le_first m rest le_rfl]
  case between =>
    rintro front p q rest rfl hp hq
    rw [curveAt_append m (q :: rest) hasc hp.le, curveAt_of_between_first m rest hp hq]
    exact ⟨rfl, interpolated_mem_Icc m hp hq⟩

end Sys2Proof.Machine
end

section
/-! PROOFS. The apportioner (chapter 5): one pass of the service split. -/

namespace Sys2Proof.Machine

open Sys2Proof

/-! ### The leader of a pass (R94) -/

section Leader

/-- The axles' numbers, by which R94 breaks a tie. -/
def axleNumber : Axle → Nat
  | .front => 0
  | .drive => 1
  | .tag => 2

/-- One turn of `passLeader`: the leader so far and the next axle. -/
def betterOf (x : PerAxle SplitAxle) (best : Option Axle) (i : Axle) : Option Axle :=
  if !(x.get i).active then best
  else match best with
    | none => some i
    | some j => if (x.get j).factor < (x.get i).factor then some i else some j

theorem passLeader_eq_betterOf (x : PerAxle SplitAxle) :
    passLeader x = betterOf x (betterOf x (betterOf x none .front) .drive) .tag := rfl

/-- The axle j takes part, no axle of the list that takes part has a greater factor, and j is the lowest-numbered of
those with j's factor. -/
def Leads (x : PerAxle SplitAxle) (seen : List Axle) (j : Axle) : Prop :=
  (x.get j).active = true ∧
  ∀ i ∈ seen, (x.get i).active = true →
    (x.get i).factor ≤ (x.get j).factor ∧ ((x.get i).factor = (x.get j).factor → axleNumber j ≤ axleNumber i)

/-- What `passLeader` knows of the axles it has seen: that none takes part, or which of them leads. -/
def LeaderSoFar (x : PerAxle SplitAxle) (seen : List Axle) : Option Axle → Prop
  | none => ∀ i ∈ seen, (x.get i).active = false
  | some j => j ∈ seen ∧ Leads x seen j

variable {x : PerAxle SplitAxle} {seen : List Axle} {best : Option Axle} {i : Axle}

/-- An axle that takes no part leaves the leader as it was. -/
theorem LeaderSoFar.skip (h : LeaderSoFar x seen best) (hi : (x.get i).active = false) :
    LeaderSoFar x (i :: seen) best := by
  cases best with
  | none => exact List.forall_mem_cons.mpr ⟨hi, h⟩
  | some j =>
    obtain ⟨hmem, hactive, hleads⟩ := h
    exact ⟨.tail i hmem, hactive, List.forall_mem_cons.mpr ⟨by simp [hi], hleads⟩⟩

/-- The next axle takes the lead only with a larger factor, since its number is above those of the axles seen. -/
theorem LeaderSoFar.next (h : LeaderSoFar x seen best) (hnumber : ∀ k ∈ seen, axleNumber k < axleNumber i) :
    LeaderSoFar x (i :: seen) (betterOf x best i) := by
  cases hi : (x.get i).active with
  | false => simpa [betterOf, hi] using h.skip hi
  | true =>
    cases best with
    | none =>
      simp only [betterOf, hi]
      refine ⟨.head seen, hi, List.forall_mem_cons.mpr ⟨by simp, fun k hk hactive => ?_⟩⟩
      simp [h k hk] at hactive
    | some j =>
      obtain ⟨hmem, hactive, hleads⟩ := h
      simp only [betterOf, hi]
      by_cases hlt : (x.get j).factor < (x.get i).factor
      · simp only [hlt]
        refine ⟨.head seen, hi, List.forall_mem_cons.mpr ⟨by simp, fun k hk hk' => ?_⟩⟩
        have hkj := (hleads k hk hk').1
        omega
      · simp only [hlt]
        have hji := hnumber j hmem
        exact ⟨.tail i hmem, hactive, List.forall_mem_cons.mpr ⟨fun _ => by omega, hleads⟩⟩

theorem passLeader_leaderSoFar (x : PerAxle SplitAxle) : LeaderSoFar x [.tag, .drive, .front] (passLeader x) := by
  have hstart : LeaderSoFar x [] none := by simp [LeaderSoFar]
  rw [passLeader_eq_betterOf]
  exact ((hstart.next (by simp)).next (by simp [axleNumber])).next (by simp [axleNumber])

/-- A pass with an axle in it has a leader, and it leads all three axles. -/
theorem exists_passLeader (h : ∃ i, (x.get i).active = true) :
    ∃ j, passLeader x = some j ∧ Leads x [.tag, .drive, .front] j := by
  obtain ⟨i, hi⟩ := h
  have hlead := passLeader_leaderSoFar x
  cases hl : passLeader x with
  | none =>
    rw [hl] at hlead
    have hout := hlead i (by cases i <;> simp)
    simp [hi] at hout
  | some j =>
    rw [hl] at hlead
    exact ⟨j, rfl, hlead.2⟩

end Leader

/-! ### The shares of a pass (R94) -/

section Shares

variable (amount : Nat) {x : PerAxle SplitAxle} {i j : Axle}

/-- What the pass shares out, before the remainder. -/
def passShares (amount : Nat) (x : PerAxle SplitAxle) : Nat :=
  passShare amount x .front + passShare amount x .drive + passShare amount x .tag

/-- The sum of the factors of a pass. -/
def passWeight (x : PerAxle SplitAxle) : Nat := x.front.weight + x.drive.weight + x.tag.weight

theorem passShare_eq (x : PerAxle SplitAxle) (i : Axle) :
    passShare amount x i = amount * (x.get i).weight / passWeight x := rfl

theorem SplitAxle.weight_of_inactive {y : SplitAxle} (h : y.active = false) : y.weight = 0 := by
  simp [SplitAxle.weight, h]

theorem passShare_of_inactive (h : (x.get i).active = false) : passShare amount x i = 0 := by
  simp [passShare_eq, SplitAxle.weight_of_inactive h]

/-- Where the factors sum to 0, the shares are 0. -/
theorem passShare_of_no_weight (h : passWeight x = 0) (i : Axle) : passShare amount x i = 0 := by
  rw [passShare_eq, h, Nat.div_zero]

theorem passShares_le (x : PerAxle SplitAxle) : passShares amount x ≤ amount := by
  have hadd : ∀ a b c d : Nat, a / d + b / d + c / d ≤ (a + b + c) / d := fun _ _ _ _ =>
    (Nat.add_le_add_right Nat.div_add_div_le_add_div _).trans Nat.div_add_div_le_add_div
  calc passShares amount x
      ≤ (amount * x.front.weight + amount * x.drive.weight + amount * x.tag.weight) / passWeight x := hadd ..
    _ = amount * passWeight x / passWeight x := by simp only [passWeight, mul_add]
    _ ≤ amount := Nat.div_le_of_le_mul (mul_comm amount _).le

/-- Truncation costs an axle of the pass less than one newton, and an axle out of it nothing. -/
theorem amount_mul_weight_le (x : PerAxle SplitAxle) (i : Axle) (hw : 0 < passWeight x) :
    amount * (x.get i).weight + (x.get i).active.toNat ≤
      passWeight x * (passShare amount x i + (x.get i).active.toNat) := by
  cases hi : (x.get i).active with
  | false => simp [SplitAxle.weight_of_inactive hi]
  | true =>
    rw [passShare_eq]
    exact Nat.lt_mul_div_succ _ hw

/-- The remainder is less than the number of axles of the pass. -/
theorem remainder_lt_active (hactive : ∃ i, (x.get i).active = true) (hw : 0 < passWeight x) :
    amount - passShares amount x <
      (x.get .front).active.toNat + (x.get .drive).active.toNat + (x.get .tag).active.toNat := by
  have hone : 0 < (x.get .front).active.toNat + (x.get .drive).active.toNat + (x.get .tag).active.toNat := by
    obtain ⟨i, hi⟩ := hactive
    cases i <;> simp [hi]
  have hfront := amount_mul_weight_le amount x .front hw
  have hdrive := amount_mul_weight_le amount x .drive hw
  have htag := amount_mul_weight_le amount x .tag hw
  have hsum : passWeight x * amount =
      amount * (x.get .front).weight + amount * (x.get .drive).weight + amount * (x.get .tag).weight := by
    simp only [passWeight, PerAxle.get]
    ring
  have hlt : passWeight x * amount < passWeight x * (passShares amount x +
      ((x.get .front).active.toNat + (x.get .drive).active.toNat + (x.get .tag).active.toNat)) := by
    rw [passShares]
    linarith
  have := Nat.lt_of_mul_lt_mul_left hlt
  omega

theorem passGives_leader (h : passLeader x = some j) :
    passGives amount x j = passShare amount x j + (amount - passShares amount x) := by
  simp [passGives, passShares, h]

theorem passGives_other (h : passLeader x = some j) (hij : i ≠ j) : passGives amount x i = passShare amount x i := by
  simp [passGives, h, hij.symm]

/-- The remainder makes up for the truncation of all three shares. -/
theorem passGives_sum (h : passLeader x = some j) :
    passGives amount x .front + passGives amount x .drive + passGives amount x .tag = amount := by
  have hle := passShares_le amount x
  have hsplit : passGives amount x .front + passGives amount x .drive + passGives amount x .tag =
      passShares amount x + (amount - passShares amount x) := by
    cases j <;> simp [passGives, passShares, h] <;> omega
  omega

end Shares

/-- Settles O23: the leader that `passLeader` names takes what truncation leaves of the amount. -/
theorem splitPassDividesTheWholeAmount : Obligations.SplitPassDividesTheWholeAmount := by
  intro amount x hin f sum share rest number
  have hactive : ∃ i, (x.get i).active = true := by
    obtain h | h | h := hin <;> exact ⟨_, h⟩
  obtain ⟨leader, hleader, hlead, hbest⟩ := exists_passLeader hactive
  have hshare : share = passShare amount x := by
    funext i
    simp only [share]
    split
    case isTrue hsum => exact (passShare_of_no_weight amount hsum i).symm
    case isFalse => rfl
  have hrest : rest = amount - passShares amount x := by simp only [rest, hshare, passShares]
  have hnumber : ∀ i, number i = axleNumber i := fun i => by cases i <;> rfl
  refine ⟨passGives_sum amount hleader, ?out, ?bound, leader, hlead, ?leads, ?takes, ?others⟩
  case out =>
    intro i hi
    have hne : i ≠ leader := by rintro rfl; simp [hlead] at hi
    rw [passGives_other amount hleader hne, passShare_of_inactive amount hi]
  case bound => exact fun hsum => hrest ▸ remainder_lt_active amount hactive hsum
  case leads =>
    intro i hi
    rw [hnumber, hnumber]
    exact hbest i (by cases i <;> simp) hi
  case takes => rw [hrest, hshare, passGives_leader amount hleader]
  case others => exact fun i hi => by rw [hshare, passGives_other amount hleader hi]

end Sys2Proof.Machine
end

section
/-! PROOFS. RESTART: the zero set, the demand cleared, and the boundary made or requested (R16, R59, R106, R149). -/

namespace Sys2Proof.Machine

open Sys2Proof Sys2Proof.Laws

/-! ### RESTART at the timer (R16) -/

section RestartTimer

variable {s : State}

/-- The phases in which RESTART makes a boundary at once. -/
theorem restartTimer_boundary
    (h : s.timer.phase = .openPhase ∨ s.timer.phase = .closed ∨ (s.timer.phase = .start ∧ 20 ≤ s.timer.counter)) :
    restartTimer s = makeBoundary s := by
  obtain hopen | hclosed | ⟨hstart, hcounter⟩ := h
  · simp [restartTimer, hopen]
  · simp [restartTimer, hclosed]
  · simp [restartTimer, hstart, Config.guardTicks, hcounter.not_gt]

/-- The phases in which RESTART leaves a request. -/
theorem restartTimer_request
    (h : s.timer.phase = .guarding ∨ (s.timer.phase = .start ∧ s.timer.counter < 20)) :
    restartTimer s = { s with timer := { s.timer with restartReq := true } } := by
  obtain hguard | ⟨hstart, hcounter⟩ := h
  · simp [restartTimer, hguard]
  · simp [restartTimer, hstart, Config.guardTicks, hcounter]

@[simp] theorem makeBoundary_ports (s : State) : (makeBoundary s).ports = s.ports := by simp [makeBoundary]

@[simp] theorem restartTimer_ports (s : State) : (restartTimer s).ports = s.ports := by
  cases hphase : s.timer.phase with
  | start =>
    obtain hbelow | hreached := Nat.lt_or_ge s.timer.counter 20
    · rw [restartTimer_request (.inr ⟨hphase, hbelow⟩)]
    · rw [restartTimer_boundary (.inr (.inr ⟨hphase, hreached⟩)), makeBoundary_ports]
  | guarding => rw [restartTimer_request (.inl hphase)]
  | openPhase => rw [restartTimer_boundary (.inl hphase), makeBoundary_ports]
  | closed => rw [restartTimer_boundary (.inr (.inl hphase)), makeBoundary_ports]

end RestartTimer

/-! ### RESTART at the other blocks (R59, R106, R150) -/

theorem restartBlocks_frame (s : State) :
    restartBlocks s =
      { s with app := s.app.restarted, demand := Demand.reset, events := (restartBlocks s).events } := rfl

@[simp] theorem restartBlocks_mask (s : State) (p : Port) :
    ((restartBlocks s).events.get p).mask = (s.events.get p).mask :=
  State.post_mask .stateChange allPorts s p

/-- STATE_CHANGE goes to every port. -/
theorem restartBlocks_count (s : State) (p : Port) (k : EventKind) :
    ((restartBlocks s).events.get p).counts.get k =
      if k = .stateChange then bump ((s.events.get p).counts.get k) else (s.events.get p).counts.get k := by
  have hpost := State.post_count .stateChange k allPorts s p
  simp only [mem_allPorts, true_and] at hpost
  exact hpost

/-! ### RESTART as an exchange (R149, R161) -/

section RestartExchange

variable {s : State} {p : Port} {data : List Byte}

theorem exec_restart (p : Port) (stray : Nat) (s : State) :
    exec (.restart p stray) s =
      .next (releaseExchange p (isCommand 6) (fun x => restartFault p x stray) (fun _ s => takeRestart s) s) := rfl

theorem collected_restart_isCommand (h : Collected s p 0x60#8 0#8 data) : isCommand 6 (s.port p).xch = true := by
  rw [collected_isCommand h]; decide

/-- Of the checks of a RESTART with whole bytes and its header, the byte count and the port are left. -/
theorem collected_restartFault (h : Collected s p 0x60#8 0#8 data) :
    restartFault p (s.port p).xch 0 =
      if data.length ≠ 0 then some .length else if p ≠ .c then some .owner else none := by
  simp [restartFault, collected_isRagged h, collected_cls h, collected_h1 h, collected_count h]

theorem exec_restart_fails (h : Collected s p 0x60#8 0#8 data) {code : ResultCode}
    (hfault : restartFault p (s.port p).xch 0 = some code) :
    exec (.restart p 0) s = .next (s.withBad p 0x60#8 0#8 code 0 0 0) := by
  rw [exec_restart, collected_release_fails h (collected_restart_isCommand h) hfault]

theorem exec_restart_good (h : Collected s .c 0x60#8 0#8 []) :
    exec (.restart .c 0) s = .next ((restartTimer (restartBlocks s)).withGood .c 0x60#8 0#8 .ok 0) := by
  have hports : (restartTimer (restartBlocks s)).ports = s.ports := restartTimer_ports _
  rw [exec_restart, collected_release_taken h (collected_restart_isCommand h) (by simp [collected_restartFault h]),
    takeRestart, settleExchange, collected_pass h _ (by rw [State.port, hports, State.port])]

end RestartExchange

/-- Settles O42: the blocks act as `restartBlocks` says, and then the timer by its phase. -/
theorem restartClearsAndRequestsABoundary : Obligations.RestartClearsAndRequestsABoundary := by
  refine ⟨fun s hs => ⟨restartBlocks s, ⟨_, _, _, restartBlocks_frame s⟩, ⟨rfl, rfl, rfl, rfl, rfl, rfl, rfl⟩, rfl,
    restartBlocks_mask s, restartBlocks_count s, ?boundary, ?request⟩, ?owner, ?length⟩
  case boundary =>
    intro hphase
    rw [exec_restart_good hs, restartTimer_boundary (s := restartBlocks s) hphase]
  case request =>
    intro hphase
    rw [exec_restart_good hs, restartTimer_request (s := restartBlocks s) hphase]
    rfl
  case owner =>
    intro s p hp hs
    exact exec_restart_fails hs (by simp [collected_restartFault hs, hp])
  case length =>
    intro s p data hdata hs
    exact exec_restart_fails hs (by simp [collected_restartFault hs, hdata])

end Sys2Proof.Machine
end

section
/-! PROOFS. The plan store (chapter 7): the ramp steps through a boundary, a RESTART and device reset, and the
commit-pending mark under COMMIT and WITHDRAW. -/

namespace Sys2Proof.Machine

open Sys2Proof Sys2Proof.Laws

/-! ### The plan through a boundary (R137, R138) -/

/-- A boundary reaches the plan store by its copies alone. -/
@[simp] theorem makeBoundary_plan (s : State) : (makeBoundary s).plan = s.plan.copied := by simp [makeBoundary]

section Copied

variable (x : PlanStore)

theorem PlanStore.copied_stepE :
    x.copied.stepE = if x.e.pending then some (rampStep x.e.staged.rampRate x.copied.periodP) else x.stepE := rfl

theorem PlanStore.copied_stepT :
    x.copied.stepT = if x.t.pending then some (rampStep x.t.staged.rampRate x.copied.periodP) else x.stepT := rfl

variable {x}

theorem PlanStore.copied_stepE_of_clear (h : x.e.pending = false) : x.copied.stepE = x.stepE := by
  simp [copied_stepE, h]

theorem PlanStore.copied_stepT_of_clear (h : x.t.pending = false) : x.copied.stepT = x.stepT := by
  simp [copied_stepT, h]

end Copied

/-! ### The range of a ramp step (R132, R138) -/

theorem rampStep_mono {rate rate' p p' : Nat} (hrate : rate ≤ rate') (hp : p ≤ p') :
    rampStep rate p ≤ rampStep rate' p' :=
  Nat.div_le_div_right (Nat.mul_le_mul hrate hp)

/-- The least RAMP_RATE and P make a step of 10, the greatest one of 20,000. -/
theorem rampStep_mem_Icc {rate p : Nat} (hrate : 1000 ≤ rate ∧ rate ≤ 400000) (hp : 10 ≤ p ∧ p ≤ 50) :
    10 ≤ rampStep rate p ∧ rampStep rate p ≤ 20000 :=
  ⟨rampStep_mono hrate.1 hp.1, rampStep_mono hrate.2 hp.2⟩

/-! ### The plan through a RESTART (R16, R138) -/

/-- RESTART at the timer makes a boundary or leaves a request. -/
theorem restartTimer_cases (s : State) :
    restartTimer s = makeBoundary s ∨ restartTimer s = { s with timer := { s.timer with restartReq := true } } := by
  cases hphase : s.timer.phase with
  | start =>
    obtain hbelow | hreached := Nat.lt_or_ge s.timer.counter 20
    · exact .inr (restartTimer_request (.inr ⟨hphase, hbelow⟩))
    · exact .inl (restartTimer_boundary (.inr (.inr ⟨hphase, hreached⟩)))
  | guarding => exact .inr (restartTimer_request (.inl hphase))
  | openPhase => exact .inl (restartTimer_boundary (.inl hphase))
  | closed => exact .inl (restartTimer_boundary (.inr (.inl hphase)))

/-- A good RESTART leaves the plan store, or makes a boundary's copies. -/
theorem exec_restart_plan {s t : State} (h : Collected s .c 0x60#8 0#8 []) (ht : exec (.restart .c 0) s = .next t) :
    t.plan = s.plan ∨ t.plan = s.plan.copied := by
  rw [exec_restart_good h] at ht
  injection ht with ht
  have hplan : t.plan = (restartTimer (restartBlocks s)).plan := ht ▸ rfl
  rw [hplan]
  obtain hboundary | hrequest := restartTimer_cases (restartBlocks s)
  · exact .inr (hboundary ▸ makeBoundary_plan _)
  · exact .inl (hrequest ▸ rfl)

/-- Settles O11: the step is that of the boundary's copies, which alone reach it until device reset. -/
theorem rampStepFollowsItsSection : Obligations.RampStepFollowsItsSection := by
  refine ⟨fun s => ?boundary, fun rate p hlow hhigh hplow hphigh => rampStep_mem_Icc ⟨hlow, hhigh⟩ ⟨hplow, hphigh⟩,
    fun s t hs ht => ?restart, fun s t ht => ?reset⟩
  case boundary =>
    rw [makeBoundary_plan]
    exact ⟨PlanStore.copied_stepE s.plan, PlanStore.copied_stepT s.plan⟩
  case restart =>
    obtain hkept | hcopied := exec_restart_plan hs ht
    · rw [hkept]
      exact ⟨fun _ => rfl, fun _ => rfl⟩
    · rw [hcopied]
      exact ⟨PlanStore.copied_stepE_of_clear, PlanStore.copied_stepT_of_clear⟩
  case reset =>
    cases ht
    exact ⟨rfl, rfl⟩

/-! ### COMMIT and WITHDRAW at the plan store (R131, R139) -/

section TakePlanCommand

variable {s : State} {p : Port}

theorem takeCommit_of_pending (h : s.plan.isPending p = true) : takeCommit p s = .refuse .pending 0 0 0 := by
  simp [takeCommit, h]

theorem takeCommit_of_invalid (h : s.plan.isPending p = false) {f : CheckFault} (hf : s.plan.checkStaged p = some f) :
    takeCommit p s = .refuse .invalid f.code f.part f.item := by
  simp [takeCommit, h, hf]

theorem takeCommit_of_valid (h : s.plan.isPending p = false) (hf : s.plan.checkStaged p = none) :
    takeCommit p s = .done { s with plan := s.plan.setPending p true } := by
  simp [takeCommit, h, hf]

theorem takeWithdraw_of_pending (h : s.plan.isPending p = true) :
    takeWithdraw p s = .done { s with plan := s.plan.setPending p false } := by
  simp [takeWithdraw, h]

theorem takeWithdraw_of_clear (h : s.plan.isPending p = false) : takeWithdraw p s = .refuse .state 0 0 0 := by
  simp [takeWithdraw, h]

end TakePlanCommand

/-! ### COMMIT and WITHDRAW as exchanges (R157, R161) -/

/-- The owner of a part, part by part (R127). -/
theorem partOwner_eq_getD : ∀ index ≤ 10,
    partOwner index = [Port.e, .e, .t, .t, .b, .b, .b, .b, .b, .c, .c].getD index .c := by
  decide

section PlanCommand

variable {s : State} {p : Port} {h0 index : Byte} {data : List Byte} {code : Nat} {act : State → Answer}

/-- The release of select on a whole COMMIT or WITHDRAW, which the plan store answers by `act`. -/
def releasePlanCommand (p : Port) (code : Nat) (act : State → Answer) (s : State) : State :=
  releaseExchange p (isCommand code) (fun x => planCommandFault p x 0) (fun _ s => act s) s

theorem exec_commit (p : Port) (s : State) :
    exec (.commit p 0) s = .next (releasePlanCommand p 3 (takeCommit p) s) := rfl

theorem exec_withdraw (p : Port) (s : State) :
    exec (.withdraw p 0) s = .next (releasePlanCommand p 4 (takeWithdraw p) s) := rfl

/-- Of the checks of a COMMIT or a WITHDRAW that names a part, the byte count and the owner are left. -/
theorem collected_planCommandFault (h : Collected s p h0 index data) (hcls : h0.toNat % 16 = 10)
    (hindex : index.toNat ≤ 10) :
    planCommandFault p (s.port p).xch 0 =
      if data.length ≠ 0 then some .length else if partOwner index.toNat ≠ p then some .owner else none := by
  have hrecord : (s.port p).xch.record = some (.planStaged, index.toNat) := by
    simp [collected_record h, hcls, classOfCode, lastIndex, hindex]
  simp [planCommandFault, collected_isRagged h, hrecord, collected_count h]

theorem releasePlanCommand_fails (h : Collected s p h0 index data) (hcode : h0.toNat / 16 = code)
    {result : ResultCode} (hfault : planCommandFault p (s.port p).xch 0 = some result) :
    releasePlanCommand p code act s = s.withBad p h0 index result 0 0 0 :=
  collected_release_fails h (by simp [collected_isCommand h, hcode]) hfault

/-- Data bytes come before the owner in the order of the checks. -/
theorem releasePlanCommand_length (h : Collected s p h0 index data) (hcode : h0.toNat / 16 = code)
    (hcls : h0.toNat % 16 = 10) (hindex : index.toNat ≤ 10) (hdata : data ≠ []) :
    releasePlanCommand p code act s = s.withBad p h0 index .length 0 0 0 :=
  releasePlanCommand_fails h hcode (by simp [collected_planCommandFault h hcls hindex, hdata])

theorem releasePlanCommand_owner (h : Collected s p h0 index []) (hcode : h0.toNat / 16 = code)
    (hcls : h0.toNat % 16 = 10) (hindex : index.toNat ≤ 10) (howner : partOwner index.toNat ≠ p) :
    releasePlanCommand p code act s = s.withBad p h0 index .owner 0 0 0 :=
  releasePlanCommand_fails h hcode (by simp [collected_planCommandFault h hcls hindex, howner])

/-- The owner's COMMIT or WITHDRAW without data bytes reaches the plan store. -/
theorem releasePlanCommand_taken (h : Collected s p h0 index []) (hcode : h0.toNat / 16 = code)
    (hcls : h0.toNat % 16 = 10) (hindex : index.toNat ≤ 10) (howner : partOwner index.toNat = p) :
    releasePlanCommand p code act s = settleExchange p s (act s) :=
  collected_release_taken h (by simp [collected_isCommand h, hcode])
    (by simp [collected_planCommandFault h hcls hindex, howner])

theorem settleExchange_refuse (h : Collected s p h0 index data) (result : ResultCode) (d1 d2 d3 : Nat) :
    settleExchange p s (.refuse result d1 d2 d3) = s.withBad p h0 index result d1 d2 d3 :=
  collected_fail h result d1 d2 d3

theorem settleExchange_plan (h : Collected s p h0 index data) (plan : PlanStore) :
    settleExchange p s (.done { s with plan := plan }) = { s.withGood p h0 index .ok 0 with plan := plan } :=
  collected_pass h { s with plan := plan } rfl .ok 0

end PlanCommand

section Commands

variable {s : State} {p : Port} {index : Byte}

/-- A COMMIT that the plan store takes, by its answer. -/
theorem exec_commit_taken (h : Collected s p 0x3A#8 index []) (hindex : index.toNat ≤ 10)
    (howner : partOwner index.toNat = p) :
    exec (.commit p 0) s = .next (settleExchange p s (takeCommit p s)) := by
  rw [exec_commit, releasePlanCommand_taken h (by decide) (by decide) hindex howner]

/-- A WITHDRAW that the plan store takes, by its answer. -/
theorem exec_withdraw_taken (h : Collected s p 0x4A#8 index []) (hindex : index.toNat ≤ 10)
    (howner : partOwner index.toNat = p) :
    exec (.withdraw p 0) s = .next (settleExchange p s (takeWithdraw p s)) := by
  rw [exec_withdraw, releasePlanCommand_taken h (by decide) (by decide) hindex howner]

end Commands

/-- Settles O40: the port's checks leave the byte count and the owner, and the plan store answers the rest by the mark
and the staged copy of the port's section. -/
theorem commitAndWithdrawMoveTheMark : Obligations.CommitAndWithdrawMoveTheMark := by
  intro s p index hindex owner fault marked mark
  have howner : partOwner index.toNat = owner := partOwner_eq_getD _ hindex
  have hfault : s.plan.checkStaged p = fault := by cases p <;> rfl
  have hmarked : s.plan.isPending p = marked := by cases p <;> rfl
  have hmark : ∀ v, s.plan.setPending p v = mark v := by intro v; cases p <;> rfl
  rw [← hfault, ← hmarked, ← howner]
  refine ⟨fun h => ⟨fun hp => ?commitOwner, fun hp hset => ?commitPending, fun hp hclear f hf => ?commitInvalid,
    fun hp hclear hf => ?commitOk⟩, fun h => ⟨fun hp => ?withdrawOwner, fun hp hset => ?withdrawOk,
    fun hp hclear => ?withdrawState⟩, fun data hdata => ⟨fun h => ?commitLength, fun h => ?withdrawLength⟩⟩
  case commitOwner => rw [exec_commit, releasePlanCommand_owner h (by decide) (by decide) hindex hp.symm]
  case commitPending =>
    rw [exec_commit_taken h hindex hp.symm, takeCommit_of_pending hset, settleExchange_refuse h]
  case commitInvalid =>
    rw [exec_commit_taken h hindex hp.symm, takeCommit_of_invalid hclear hf, settleExchange_refuse h]
  case commitOk =>
    rw [exec_commit_taken h hindex hp.symm, takeCommit_of_valid hclear hf, settleExchange_plan h, hmark]
  case withdrawOwner => rw [exec_withdraw, releasePlanCommand_owner h (by decide) (by decide) hindex hp.symm]
  case withdrawOk =>
    rw [exec_withdraw_taken h hindex hp.symm, takeWithdraw_of_pending hset, settleExchange_plan h, hmark]
  case withdrawState =>
    rw [exec_withdraw_taken h hindex hp.symm, takeWithdraw_of_clear hclear, settleExchange_refuse h]
  case commitLength => rw [exec_commit, releasePlanCommand_length h (by decide) (by decide) hindex hdata]
  case withdrawLength => rw [exec_withdraw, releasePlanCommand_length h (by decide) (by decide) hindex hdata]

end Sys2Proof.Machine
end

section
/-! PROOFS. The GRANT record (chapter 9): a field that was sent reads back at its offset, and the fields of an actuator
record and of the summary lie at the offsets of R168. -/

namespace Sys2Proof.Machine

open Sys2Proof

/-! ### A sent field within a record (R166) -/

section SentField

variable {d field : List Byte} {i n : Nat}

/-- A field lies at offset `i` of a record where the record from `i` on begins with its bytes. -/
theorem byteAt_of_prefix (h : field <+: d.drop i) {k : Nat} (hk : k < field.length) :
    byteAt d (i + k) = byteAt field k := by
  obtain ⟨rest, hrest⟩ := h
  rw [byteAt, byteAt, List.getD_eq_getElem?_getD, List.getD_eq_getElem?_getD, ← List.getElem?_drop, ← hrest,
    List.getElem?_append_left hk]

theorem byteAt_send8 (h : send8 n <+: d.drop i) (hn : n < 256) : byteAt d i = n :=
  calc byteAt d i = n % 2 ^ 8 := byteAt_of_prefix h (k := 0) Nat.zero_lt_one
    _ = n := Nat.mod_eq_of_lt hn

theorem byteAt_sendFlag {f : Bool} (h : sendFlag f <+: d.drop i) : byteAt d i = f.toNat := by
  cases f
  case false => exact byteAt_send8 h (by decide)
  case true => exact byteAt_send8 h (by decide)

theorem word16At_send16 (h : send16 n <+: d.drop i) (hn : n < 65536) : word16At d i = n := by
  have high : byteAt d i = n / 256 % 2 ^ 8 := byteAt_of_prefix h (k := 0) Nat.zero_lt_two
  have low : byteAt d (i + 1) = n % 2 ^ 8 := byteAt_of_prefix h (k := 1) Nat.one_lt_two
  rw [word16At, high, low]
  omega

theorem word32At_send32 (h : send32 n <+: d.drop i) (hn : n < 2 ^ 32) : word32At d i = n := by
  obtain ⟨rest, hrest⟩ := h
  have high : word16At d i = n / 65536 := word16At_send16 ⟨_, hrest⟩ (by omega)
  have low : word16At d (i + 2) = n % 65536 :=
    word16At_send16 ⟨rest, by rw [← List.drop_drop, ← hrest]; rfl⟩ (by omega)
  rw [word32At, high, low]
  omega

end SentField

/-! ### The codes of a GRANT record (R168) -/

/-- The flags are the binary digits of their byte. -/
theorem flagsByte_eq (f : GrantFlags) :
    flagsByte f = 128 * f.ramped.toNat + 64 * f.capped.toNat + 32 * f.slipCut.toNat + 16 * f.shiftGap.toNat +
      8 * f.aging.toNat + 4 * f.expired.toNat + 2 * f.novalue.toNat + f.frozen.toNat := by
  have digit : ∀ (b : Bool) (weight : Nat), (if b then weight else 0) = weight * b.toNat := by
    intro b weight; cases b <;> simp
  simp only [flagsByte, digit, Nat.one_mul]

theorem flagsByte_lt (f : GrantFlags) : flagsByte f < 256 := by
  have := f.ramped.toNat_le; have := f.capped.toNat_le; have := f.slipCut.toNat_le; have := f.shiftGap.toNat_le
  have := f.aging.toNat_le; have := f.expired.toNat_le; have := f.novalue.toNat_le; have := f.frozen.toNat_le
  rw [flagsByte_eq]
  omega

theorem engineCode_lt (e : EngineState) : engineCode e < 256 := by cases e <;> decide

/-! ### The layout of a GRANT record (R99, R168) -/

section Grant

variable (g : GrantSet)

theorem sendGrant_of_actuator {index : Nat} {a : ActuatorGrant}
    (h : [g.exhaust, g.retarder, g.service.front, g.service.drive, g.service.tag][index]? = some a) :
    sendGrant g index = sendActuator g a := by
  match index, h with
  | 0, h | 1, h | 2, h | 3, h | 4, h => cases h; rfl

theorem sendGrant_of_summary {index : Nat} (h : 5 ≤ index) : sendGrant g index = sendSummary g := by
  match index, h with
  | _ + 5, _ => rfl

/-- Every record of a set begins with the set's PERIOD_INDEX and VALID. -/
theorem sendGrant_header (index : Nat) : send16 g.periodIndex ++ sendFlag g.valid <+: sendGrant g index :=
  match index with
  | 0 | 1 | 2 | 3 | 4 | _ + 5 => ⟨_, rfl⟩

theorem word16At_sendGrant_periodIndex (index : Nat) (h : g.periodIndex < 65536) :
    word16At (sendGrant g index) 0 = g.periodIndex :=
  word16At_send16 ((List.prefix_append _ _).trans (sendGrant_header g index)) h

theorem byteAt_sendGrant_valid (index : Nat) : byteAt (sendGrant g index) 2 = g.valid.toNat :=
  byteAt_sendFlag ((sendGrant_header g index).drop 2)

theorem sendActuator_layout (a : ActuatorGrant) (hn : a.grantN < 2 ^ 32) (hunits : a.units < 65536)
    (hcap : a.capacity < 2 ^ 32) :
    (sendActuator g a).length = 14 ∧ word32At (sendActuator g a) 3 = a.grantN ∧
      word16At (sendActuator g a) 7 = a.units ∧ word32At (sendActuator g a) 9 = a.capacity ∧
      byteAt (sendActuator g a) 13 = flagsByte a.flags :=
  ⟨rfl, word32At_send32 ⟨_, rfl⟩ hn, word16At_send16 ⟨_, rfl⟩ hunits, word32At_send32 ⟨_, rfl⟩ hcap,
    byteAt_send8 ⟨_, rfl⟩ (flagsByte_lt _)⟩

end Grant

/-- Settles O49: a record is one of the five actuator records or the summary, and each field is read where the record
goes on with that field's bytes. -/
theorem grantRecordsAreLaidOut : Obligations.GrantRecordsAreLaidOut := by
  intro g index hperiod
  refine ⟨word16At_sendGrant_periodIndex g index hperiod, byteAt_sendGrant_valid g index, ?actuator, ?summary⟩
  case actuator =>
    intro a ha hn hunits hcap
    rw [sendGrant_of_actuator g ha, ← flagsByte_eq]
    exact sendActuator_layout g a hn hunits hcap
  case summary =>
    intro hindex hd hdSvc heCap hxE hxR hs hshortfall hhold
    rw [sendGrant_of_summary g hindex.ge]
    exact ⟨rfl, (byteAt_send8 ⟨_, rfl⟩ (engineCode_lt _)).trans (by cases g.summary.state <;> rfl),
      word32At_send32 ⟨_, rfl⟩ hd, word32At_send32 ⟨_, rfl⟩ hdSvc, word32At_send32 ⟨_, rfl⟩ heCap,
      word32At_send32 ⟨_, rfl⟩ hxE, word32At_send32 ⟨_, rfl⟩ hxR, word32At_send32 ⟨_, rfl⟩ hs,
      word32At_send32 ⟨_, rfl⟩ hshortfall, word16At_send16 ⟨_, rfl⟩ hhold⟩

end Sys2Proof.Machine
end

section
/-! PROOFS. The event units (chapter 10): the bitmap bit by bit, the attention line, and the ACK. -/

namespace Sys2Proof.Machine

open Sys2Proof Sys2Proof.Laws

/-! ### The numbers of the kinds (R167) -/

/-- `allKinds` lists each kind at its number. -/
theorem getElem?_allKinds_kindNumber (k : EventKind) : allKinds[kindNumber k]? = some k := by
  cases k <;> rfl

theorem kindNumber_injective : Function.Injective kindNumber := by
  intro k k' h
  have hk := getElem?_allKinds_kindNumber k
  rw [h, getElem?_allKinds_kindNumber k'] at hk
  exact (Option.some.inj hk).symm

@[simp] theorem kindNumber_inj {k k' : EventKind} : kindNumber k = kindNumber k' ↔ k = k' :=
  kindNumber_injective.eq_iff

@[simp] theorem mem_allKinds (k : EventKind) : k ∈ allKinds := List.mem_of_getElem? (getElem?_allKinds_kindNumber k)

theorem kindNumber_lt (k : EventKind) : kindNumber k < 16 :=
  (List.getElem?_eq_some_iff.mp (getElem?_allKinds_kindNumber k)).1

theorem exists_kindNumber_eq {n : Nat} (h : n < 16) : ∃ k, kindNumber k = n :=
  have hlisted : ∀ n < 16, ∃ k ∈ allKinds, kindNumber k = n := by decide
  (hlisted n h).imp fun _ => And.right

/-! ### Bits of the kinds (R156, R167) -/

/-- The bit that a kind's number names is that kind's alone. -/
theorem getLsbD_ofNat_two_pow_kindNumber (k k' : EventKind) :
    (BitVec.ofNat 16 (2 ^ kindNumber k')).getLsbD (kindNumber k) = decide (k = k') := by
  rw [BitVec.getLsbD_ofNat, Nat.testBit_two_pow]
  simp [kindNumber_lt, eq_comm]

/-- Every bit of a word of kinds belongs to a kind. -/
theorem kindBits_ne_zero_iff (v : KindBits) : v ≠ 0#16 ↔ ∃ k, v.getLsbD (kindNumber k) = true := by
  constructor
  · intro hne
    by_contra hnone
    refine hne (BitVec.eq_of_getLsbD_eq fun n hn => ?_)
    obtain ⟨k, rfl⟩ := exists_kindNumber_eq hn
    simpa using fun hk => hnone ⟨k, hk⟩
  · rintro ⟨k, hk⟩ rfl
    simp at hk

/-! ### The bitmap and the attention line (R156, R172) -/

section Bitmap

variable (u : EventUnit)

/-- A bitmap with the bit of one kind set where that kind is pending. -/
def EventUnit.raiseBit (acc : KindBits) (k : EventKind) : KindBits :=
  if u.counts.get k = 0 then acc else acc ||| BitVec.ofNat 16 (2 ^ kindNumber k)

theorem EventUnit.bitmap_eq_foldl : u.bitmap = allKinds.foldl u.raiseBit 0#16 := rfl

theorem EventUnit.raiseBit_getLsbD (acc : KindBits) (k k' : EventKind) :
    (u.raiseBit acc k').getLsbD (kindNumber k) =
      (acc.getLsbD (kindNumber k) || decide (k = k' ∧ 0 < u.counts.get k)) := by
  by_cases hcount : u.counts.get k' = 0
  · have hnone : ¬(k = k' ∧ 0 < u.counts.get k) := by
      rintro ⟨rfl, hpos⟩
      omega
    simp [raiseBit, hcount, hnone]
  · have hpending : k = k' → 0 < u.counts.get k := by
      rintro rfl
      omega
    rw [raiseBit, if_neg hcount, BitVec.getLsbD_or, getLsbD_ofNat_two_pow_kindNumber]
    simp [and_iff_left_of_imp hpending]

/-- After a list of kinds, the bits set are those set before and those of the list's pending kinds. -/
theorem EventUnit.foldl_raiseBit_getLsbD (k : EventKind) (ks : List EventKind) (acc : KindBits) :
    (ks.foldl u.raiseBit acc).getLsbD (kindNumber k) =
      (acc.getLsbD (kindNumber k) || decide (k ∈ ks ∧ 0 < u.counts.get k)) := by
  induction ks generalizing acc with
  | nil => simp
  | cons k' ks ih => simp [ih, raiseBit_getLsbD, or_and_right, Bool.or_assoc]

/-- Bit k of the bitmap is set while the count of kind k is above 0 (R156). -/
theorem EventUnit.bitmap_getLsbD (k : EventKind) :
    u.bitmap.getLsbD (kindNumber k) = decide (0 < u.counts.get k) := by
  simp [bitmap_eq_foldl, foldl_raiseBit_getLsbD]

theorem EventUnit.wantsAttention_iff :
    u.wantsAttention = true ↔ ∃ k, 0 < u.counts.get k ∧ u.mask.getLsbD (kindNumber k) = true := by
  rw [wantsAttention, bne_iff_ne, kindBits_ne_zero_iff]
  simp [bitmap_getLsbD]

end Bitmap

/-- The attention line is asserted while a kind is pending and enabled, and RESET is not held (R172). -/
theorem State.attention_iff (s : State) (p : Port) :
    s.attention p = true ↔ s.resetHeld = false ∧
      ∃ k, 0 < (s.events.get p).counts.get k ∧ (s.events.get p).mask.getLsbD (kindNumber k) = true := by
  simp [State.attention, EventUnit.wantsAttention_iff]

/-! ### ACK at the event units (R175) -/

section AckedEvents

variable (s : State) (p : Port) (data : List Byte)

/-- The event units after an ACK at one port. -/
def ackedEvents : PerPort EventUnit := s.events.set p ((s.events.get p).acknowledge (echoOf data))

theorem takeAck_eq (x : Exchange) :
    takeAck p x s = .done { s with events := ackedEvents s p x.data } := rfl

theorem ackedEvents_mask (q : Port) : ((ackedEvents s p data).get q).mask = (s.events.get q).mask := by
  by_cases hq : q = p <;> simp [ackedEvents, PerPort.get_set, hq]

theorem ackedEvents_count (q : Port) (k : EventKind) :
    ((ackedEvents s p data).get q).counts.get k =
      if q = p then (s.events.get q).counts.get k - (data.getD (kindNumber k) 0).toNat
      else (s.events.get q).counts.get k := by
  by_cases hq : q = p
  · simp [ackedEvents, hq, echoOf, byteAt]
  · simp [ackedEvents, PerPort.get_set, hq]

end AckedEvents

/-! ### ACK as an exchange (R157, R161) -/

/-- A number names a port where it is the port's own. -/
theorem portOfNumber_eq_some_iff {n : Nat} {p : Port} : portOfNumber n = some p ↔ portNumber p = n := by
  match n with
  | 0 | 1 | 2 | 3 => cases p <;> decide
  | n + 4 => cases p <;> simp [portOfNumber, portNumber]

section AckExchange

variable {s : State} {p : Port} {index : Byte} {data : List Byte}

theorem exec_ack (p : Port) (stray : Nat) (s : State) :
    exec (.ack p stray) s =
      .next (releaseExchange p (isCommand 5) (fun x => ackFault p x stray) (takeAck p) s) := rfl

theorem collected_ack_isCommand (h : Collected s p 0x53#8 index data) : isCommand 5 (s.port p).xch = true := by
  rw [collected_isCommand h]; decide

/-- Of the checks of an ACK with whole bytes and a port's index, the byte count and the port are left. -/
theorem collected_ackFault (h : Collected s p 0x53#8 index data) (hindex : index.toNat ≤ 3) :
    ackFault p (s.port p).xch 0 =
      if data.length ≠ 16 then some .length else if portNumber p ≠ index.toNat then some .owner else none := by
  have hrecord : (s.port p).xch.record = some (.events, index.toNat) := by
    simp [collected_record h, classOfCode, lastIndex, hindex]
  simp [ackFault, collected_isRagged h, hrecord, collected_count h, portOfNumber_eq_some_iff]

theorem exec_ack_fails (h : Collected s p 0x53#8 index data) {code : ResultCode}
    (hfault : ackFault p (s.port p).xch 0 = some code) :
    exec (.ack p 0) s = .next (s.withBad p 0x53#8 index code 0 0 0) := by
  rw [exec_ack, collected_release_fails h (collected_ack_isCommand h) hfault]

/-- A good ACK reaches the port's event unit alone. -/
theorem exec_ack_good (h : Collected s p 0x53#8 index data) (hindex : index.toNat ≤ 3)
    (howner : portNumber p = index.toNat) (hlength : data.length = 16) :
    exec (.ack p 0) s = .next { s.withGood p 0x53#8 index .ok 0 with events := ackedEvents s p data } := by
  have hfault : ackFault p (s.port p).xch 0 = none := by simp [collected_ackFault h hindex, howner, hlength]
  have hdata : (s.port p).xch.data = data := collected_data_short h (by omega)
  rw [exec_ack, collected_release_taken h (collected_ack_isCommand h) hfault, takeAck_eq, hdata, settleExchange,
    collected_pass h { s with events := ackedEvents s p data } rfl]
  rfl

end AckExchange

/-- Settles O41: the port's checks leave the byte count and the port, and the event unit takes a good ACK; the attention
line follows the counts that it leaves. -/
theorem ackLowersTheCounts : Obligations.AckLowersTheCounts := by
  intro s p index data hindex h
  refine ⟨fun howner hlength => ?good, fun hlength => ?length, fun howner hlength => ?owner⟩
  case good =>
    have hgood := exec_ack_good h hindex howner hlength
    refine ⟨ackedEvents s p data, hgood, ackedEvents_mask s p data, ackedEvents_count s p data, fun t ht => ?_⟩
    have hevents : t.events = ackedEvents s p data := by
      rw [hgood] at ht
      cases ht
      rfl
    rw [State.attention_iff, hevents]
  case length => exact exec_ack_fails h (by simp [collected_ackFault h hindex, hlength])
  case owner => exact exec_ack_fails h (by simp [collected_ackFault h hindex, hlength, howner])

end Sys2Proof.Machine
end

section
/-! PROOFS. What a command can make of the part: one inversion lemma over the commands, and the two ways in which the
invariants use it. -/

namespace Sys2Proof.Machine

open Sys2Proof Sys2Proof.Laws

/-! ### The SYNC edge, case by case (R10 to R13) -/

/-- The state once the edge has been taken. -/
def dropEdge (s : State) : State := { s with timer := { s.timer with syncEdge := false } }

/-- The state of which an edge makes its boundary: taken, and the run count 0 (R11, R12). -/
def endRun (s : State) : State := { s with timer := { s.timer with syncEdge := false, runCount := 0 } }

section Edge

variable {s : State}

theorem takeSyncEdge_of_ignored (h : s.timer.mode = .free ∨ s.timer.phase = .start ∨ s.timer.phase = .guarding) :
    takeSyncEdge s = dropEdge s := by
  obtain h | h | h := h <;> simp [takeSyncEdge, dropEdge, h]

theorem takeSyncEdge_of_open (hmode : s.timer.mode = .synced) (hphase : s.timer.phase = .openPhase) :
    takeSyncEdge s = makeBoundary (endRun (s.post .syncEarly [.b])) := by
  unfold takeSyncEdge
  split
  next => rfl
  next hclosed => simp [hphase] at hclosed
  next hother _ => exact (hother hmode hphase).elim

theorem takeSyncEdge_of_closed (hmode : s.timer.mode = .synced) (hphase : s.timer.phase = .closed) :
    takeSyncEdge s = makeBoundary (endRun s) := by
  simp [takeSyncEdge, endRun, hmode, hphase]

/-- Everything an edge can do. -/
theorem takeSyncEdge_cases (s : State) :
    takeSyncEdge s = dropEdge s ∨
    (s.timer.phase = .openPhase ∧ takeSyncEdge s = makeBoundary (endRun (s.post .syncEarly [.b]))) ∨
    (s.timer.phase = .closed ∧ takeSyncEdge s = makeBoundary (endRun s)) := by
  cases hmode : s.timer.mode with
  | free => exact .inl (takeSyncEdge_of_ignored (.inl hmode))
  | synced =>
    cases hphase : s.timer.phase with
    | start => exact .inl (takeSyncEdge_of_ignored (.inr (.inl hphase)))
    | guarding => exact .inl (takeSyncEdge_of_ignored (.inr (.inr hphase)))
    | openPhase => exact .inr (.inl ⟨rfl, takeSyncEdge_of_open hmode hphase⟩)
    | closed => exact .inr (.inr ⟨rfl, takeSyncEdge_of_closed hmode hphase⟩)

end Edge

/-! ### What a command can do -/

/-- What the event of a command makes of the blocks; DEVICE_RESET and TICK apart, and with a port controller's own
exchange left out. -/
inductive Change (c : Instr) (s : State) : State → Prop
  | stay : Change c s s
  | release (sync : Bool) : Change c s (releaseReset sync s)
  | position (x : Position) (hdue : s.timer.due = some x) : Change c s (takePosition x s)
  | edge (hedge : s.timer.syncEdge = true) : Change c s (takeSyncEdge s)
  | demand (index : Nat) (d : List Byte) : Change c s (storeDemand index d s)
  | holdSet (d : List Byte) : Change c s (storeHoldSet d s)
  | report (index : Nat) (d : List Byte) : Change c s (storeReport index d s)
  | staged (index : Nat) (d : List Byte) (hclear : s.plan.isPending (partOwner index) = false) :
      Change c s { s with plan := s.plan.writePart index d }
  | seed (d : List Byte) : Change c s (storeSeed d s)
  | mask (p : Port) (stray : Nat) (hc : c = .writeEventMask p stray) (v : KindBits) :
      Change c s { s with events := s.events.set p { s.events.get p with mask := v } }
  | clearErrors (p : Port) : Change c s (s.setPort p { s.port p with errors := 0 })
  | commit (p : Port) (hchecked : s.plan.checkStaged p = none) :
      Change c s { s with plan := s.plan.setPending p true }
  | withdraw (p : Port) : Change c s { s with plan := s.plan.setPending p false }
  | ack (p : Port) (stray : Nat) (hc : c = .ack p stray) (echo : EventKind → Nat) :
      Change c s { s with events := s.events.set p ((s.events.get p).acknowledge echo) }
  | restart : Change c s (restartTimer (restartBlocks s))

/-- What a command makes of the controller of its port. -/
inductive PortChange (x : PortControl) : PortControl → Prop
  | level : PortChange x { x with sel := true }
  | selected (bitmap : KindBits) : PortChange x (x.selected bitmap)
  | byte (record : Nat → Nat → Option (List Byte)) (v : Byte) : PortChange x (x.takeByte record v)
  | released : PortChange x x.released
  | failed (code : ResultCode) (d1 d2 d3 : Nat) : PortChange x (x.failed code d1 d2 d3)
  | passed (code : ResultCode) (d1 : Nat) : PortChange x (x.passed code d1)

/-- Everything a command can do: a device reset, a tick, or a change of the blocks that is followed by one of the
command's port. -/
inductive Effect (c : Instr) (s : State) : State → Prop
  | reset (hc : c = .deviceReset) : Effect c s (resetState s)
  | tick (sync : Bool) : Effect c s (passTick sync s)
  | change {t : State} (h : Change c s t) : Effect c s t
  | port {t : State} (h : Change c s t) (p : Port) {x : PortControl} (hx : PortChange (t.port p) x) :
      Effect c s (t.setPort p x)

/-- A position command takes its position or nothing. -/
theorem takeIfDue_effect (c : Instr) (x : Position) (s : State) : Effect c s (takeIfDue x s) := by
  obtain ⟨_, hdue, h⟩ | ⟨_, h⟩ := takeIfDue_cases x s <;> rw [h]
  · exact .change (.position x hdue)
  · exact .change .stay

/-- A release hands the exchange to its block, where the port's own checks pass, and settles the port. -/
theorem releaseExchange_effect {c : Instr} {p : Port} {isKind : Exchange → Bool} {fault : Exchange → Option ResultCode}
    {act : Exchange → State → Answer} {s : State}
    (hact : ∀ t, isKind (s.port p).xch = true → fault (s.port p).xch = none →
      (act (s.port p).xch s = .done t ∨ ∃ n, act (s.port p).xch s = .partly t n) → Change c s t) :
    Effect c s (releaseExchange p isKind fault act s) := by
  obtain ⟨_, h⟩ | ⟨_, hkind, ⟨code, _, h⟩ | ⟨hfault, ⟨t, ha, h⟩ | ⟨t, n, ha, h⟩ | ⟨code, d1, d2, d3, _, h⟩⟩⟩ :=
    releaseExchange_cases p isKind fault act s <;> rw [h]
  · exact .change .stay
  · exact .port .stay p (.failed code 0 0 0)
  · exact .port (hact t hkind hfault (.inl ha)) p (.passed .ok 0)
  · exact .port (hact t hkind hfault (.inr ⟨n, ha⟩)) p (.passed .seedPartial n)
  · exact .port .stay p (.failed code d1 d2 d3)

/-! ### The blocks' answers -/

/-- A WRITE that passes its port's checks is of a record that the port may write. -/
theorem writeFault_eq_none {p : Port} {x : Exchange} {stray : Nat} (h : writeFault p x stray = none) :
    ∃ k i, x.record = some (k, i) ∧ writerOf k i = some p := by
  unfold writeFault at h
  split at h
  · cases h
  · split at h
    · cases h
    next k i hrecord =>
      refine ⟨k, i, hrecord, ?_⟩
      by_contra howner
      split at h
      · cases h
      · split at h
        · cases h
        · cases h

theorem Exchange.record_eq_some {x : Exchange} {k : RecordClass} {i : Nat} (h : x.record = some (k, i)) :
    classOfCode x.cls = some k ∧ x.index = i := by
  unfold Exchange.record at h
  split at h
  next _ _ k' h1 hcls hh1 =>
    split at h
    · cases h
      exact ⟨hcls, Exchange.index_of_h1 hh1⟩
    · cases h
  next => cases h

theorem isWriteOf_cls {code : Nat} {x : Exchange} (h : isWriteOf code x = true) : x.cls = code := by
  simp only [isWriteOf, Bool.and_eq_true, decide_eq_true_eq] at h
  exact h.2

/-- A staged write that passes its port's checks is of a part that the port owns. -/
theorem partOwner_of_writeFault {p : Port} {x : Exchange} {stray : Nat} (hkind : isWriteOf 10 x = true)
    (hfault : writeFault p x stray = none) : partOwner x.index = p := by
  obtain ⟨k, i, hrecord, hwriter⟩ := writeFault_eq_none hfault
  obtain ⟨hcls, hindex⟩ := Exchange.record_eq_some hrecord
  rw [isWriteOf_cls hkind] at hcls
  cases hcls
  cases hwriter
  rw [hindex]

section Answers

variable {p : Port} {x : Exchange} {s t : State}

theorem takeStaged_done (h : takeStaged p x s = .done t) :
    s.plan.isPending p = false ∧ t = { s with plan := s.plan.writePart x.index x.data } := by
  unfold takeStaged at h
  split at h
  · cases h
  · cases h
    exact ⟨Bool.eq_false_of_not_eq_true ‹_›, rfl⟩

theorem takeStaged_not_partly {n : Nat} : takeStaged p x s ≠ .partly t n := by
  unfold takeStaged
  split <;> simp

/-- A SEED write that acts stores its values, whether or not an axle is ignored. -/
theorem takeSeed_acts (h : takeSeed x s = .done t ∨ ∃ n, takeSeed x s = .partly t n) : t = storeSeed x.data s := by
  unfold takeSeed at h
  split at h
  · simp at h
  · split at h
    · simpa [eq_comm] using h
    · simpa [eq_comm] using h

theorem takeCommit_done (h : takeCommit p s = .done t) :
    s.plan.checkStaged p = none ∧ t = { s with plan := s.plan.setPending p true } := by
  cases hmark : s.plan.isPending p with
  | true => simp [takeCommit_of_pending hmark] at h
  | false =>
    cases hf : s.plan.checkStaged p with
    | some f => simp [takeCommit_of_invalid hmark hf] at h
    | none =>
      rw [takeCommit_of_valid hmark hf] at h
      cases h
      exact ⟨rfl, rfl⟩

theorem takeCommit_not_partly {n : Nat} : takeCommit p s ≠ .partly t n := by
  unfold takeCommit
  split
  · simp
  · split <;> simp

theorem takeWithdraw_done (h : takeWithdraw p s = .done t) : t = { s with plan := s.plan.setPending p false } := by
  unfold takeWithdraw at h
  split at h
  · cases h; rfl
  · cases h

theorem takeWithdraw_not_partly {n : Nat} : takeWithdraw p s ≠ .partly t n := by
  unfold takeWithdraw
  split <;> simp

/-- A WRITE of PORT_STATUS clears the error count or changes nothing. -/
theorem takePortStatus_change (c : Instr) (h : takePortStatus p x s = .done t) : Change c s t := by
  unfold takePortStatus at h
  cases h
  split
  · exact .clearErrors p
  · exact .stay

end Answers

/-! ### Every command -/

/-- The one case split over the commands: what each can do. -/
theorem exec_effect {c : Instr} {s t : State} (h : exec c s = .next t) : Effect c s t := by
  cases c with
  | deviceReset => cases h; exact .reset rfl
  | resetRelease sync =>
    cases h
    split
    · exact .change (.release sync)
    · exact .change .stay
  | startIntervalEnd => cases h; exact takeIfDue_effect ..
  | guardEnd => cases h; exact takeIfDue_effect ..
  | publishPoint => cases h; exact takeIfDue_effect ..
  | freeBoundary => cases h; exact takeIfDue_effect ..
  | selfBoundary => cases h; exact takeIfDue_effect ..
  | restartRequestBoundary => cases h; exact takeIfDue_effect ..
  | syncEdge =>
    cases h
    split
    next hedge =>
      simp only [Bool.and_eq_true] at hedge
      exact .change (.edge hedge.2)
    next => exact .change .stay
  | selectAssert p =>
    cases h
    split
    · exact .change .stay
    · split
      · exact .port .stay p .level
      · exact .port .stay p (.selected _)
  | emptyExchange p =>
    cases h
    split
    · exact .port .stay p .released
    · exact .change .stay
  | read p stray =>
    cases h
    exact releaseExchange_effect fun t _ _ ha => by simp at ha; exact ha ▸ .stay
  | writeDemand p stray =>
    cases h
    exact releaseExchange_effect fun t _ _ ha => by simp at ha; exact ha ▸ .demand _ _
  | writeHoldSet p stray =>
    cases h
    exact releaseExchange_effect fun t _ _ ha => by simp at ha; exact ha ▸ .holdSet _
  | writeReport p stray =>
    cases h
    exact releaseExchange_effect fun t _ _ ha => by simp at ha; exact ha ▸ .report _ _
  | writePlanStaged p stray =>
    cases h
    refine releaseExchange_effect fun t hkind hfault ha => ?_
    obtain hdone | ⟨n, hpartly⟩ := ha
    · obtain ⟨hclear, rfl⟩ := takeStaged_done hdone
      exact .staged _ _ (by rwa [partOwner_of_writeFault hkind hfault])
    · exact absurd hpartly takeStaged_not_partly
  | writeSeed p stray =>
    cases h
    exact releaseExchange_effect fun t _ _ ha => takeSeed_acts ha ▸ .seed _
  | writeEventMask p stray =>
    cases h
    exact releaseExchange_effect fun t _ _ ha => by
      simp [takeMask] at ha; exact ha ▸ .mask p stray rfl _
  | writePortStatus p stray =>
    cases h
    refine releaseExchange_effect fun t _ _ ha => ?_
    obtain hdone | ⟨n, hpartly⟩ := ha
    · exact takePortStatus_change _ hdone
    · cases hpartly
  | write p stray =>
    cases h
    exact releaseExchange_effect fun t _ _ ha => by simp at ha; exact ha ▸ .stay
  | commit p stray =>
    cases h
    refine releaseExchange_effect fun t _ _ ha => ?_
    obtain hdone | ⟨n, hpartly⟩ := ha
    · obtain ⟨hchecked, rfl⟩ := takeCommit_done hdone
      exact .commit p hchecked
    · exact absurd hpartly takeCommit_not_partly
  | withdraw p stray =>
    cases h
    refine releaseExchange_effect fun t _ _ ha => ?_
    obtain hdone | ⟨n, hpartly⟩ := ha
    · exact takeWithdraw_done hdone ▸ .withdraw p
    · exact absurd hpartly takeWithdraw_not_partly
  | ack p stray =>
    cases h
    exact releaseExchange_effect fun t _ _ ha => by
      simp [takeAck] at ha; exact ha ▸ .ack p stray rfl _
  | restart p stray =>
    cases h
    exact releaseExchange_effect fun t _ _ ha => by simp [takeRestart] at ha; exact ha ▸ .restart
  | tick sync =>
    cases h
    split
    · exact .change .stay
    · exact .tick sync
  | byteTaken p v => cases h; exact .port .stay p (.byte _ v)
  | unknownCommand p stray =>
    cases h
    exact releaseExchange_effect fun t _ hfault _ => by simp at hfault

end Sys2Proof.Machine
end

section
/-! PROOFS. How the invariants use the inversion lemma: the rule for a command, the rule for a step, and what suffices for
a property of the blocks that does not look at the clock. -/

namespace Sys2Proof.Machine

open Sys2Proof

/-! ### A property kept by every command -/

/-- A settling takes one event, with the count of the free values drawn moved on or not. -/
theorem settleOne_change (c : Instr) (s : State) : ∃ n, Change c { s with tieDraws := n } (settleOne s) := by
  obtain ⟨_, _, h⟩ | ⟨x, n, hdue, h⟩ | ⟨n, hedge, h⟩ := settleOne_cases s
  · exact ⟨s.tieDraws, by rw [h]; exact .stay⟩
  · exact ⟨n, h ▸ .position x hdue⟩
  · exact ⟨n, h ▸ .edge hedge⟩

/-- What a draw and every change keep, the settling of a tick keeps. -/
theorem settleTick_keeps_of_change {P : State → Prop} {c : Instr} (hdraws : ∀ s n, P s → P { s with tieDraws := n })
    (hchange : ∀ s t, Change c s t → P s → P t) {s : State} (hs : P s) : P (settleTick s) :=
  settleTick_keeps (fun s hs => by
    obtain ⟨n, h⟩ := settleOne_change c s
    exact hchange _ _ h (hdraws s n hs)) hs

/-- What a property needs to be kept by a command. -/
structure Kept (c : Instr) (P : State → Prop) : Prop where
  draws : ∀ (s : State) (n : Nat), P s → P { s with tieDraws := n }
  port : ∀ (s : State) (p : Port) (x : PortControl), PortChange (s.port p) x → P s → P (s.setPort p x)
  tick : ∀ (s : State) (sync : Bool), P s → P (settleTick s) → P (passTick sync s)
  change : ∀ s t : State, Change c s t → P s → P t
  reset : ∀ s : State, c = .deviceReset → P s → P (resetState s)

theorem Kept.exec {c : Instr} {P : State → Prop} (h : Kept c P) {s t : State} (hexec : exec c s = .next t) (hs : P s) :
    P t := by
  obtain hc | sync | hchange | ⟨hchange, p, hx⟩ := exec_effect hexec
  case reset => exact h.reset s hc hs
  case tick => exact h.tick s sync hs (settleTick_keeps_of_change h.draws h.change hs)
  case change => exact h.change s t hchange hs
  case port => exact h.port _ p _ hx (h.change s _ hchange hs)

/-- What every command keeps, a step keeps. -/
theorem Kept.step {P : State → Prop} (h : ∀ c, Kept c P)
    (hqueue : ∀ (s : State) (q : List Instr), P s → P { s with pending := q }) {s t : State} (hs : P s)
    (hstep : step s = .next t) : P t :=
  step_keeps hqueue (fun c _ _ hs hexec => (h c).exec hexec hs) hs hstep

/-! ### Properties of the blocks apart from the clock -/

/-- What suffices for a property that does not look at the timer, the ports, the event units and the model's own fields:
the blocks' own actions keep it. -/
structure BlockInvariant (P : State → Prop) : Prop where
  frame : ∀ (s : State) (held : Bool) (timer : Timer) (ports : PerPort PortControl) (events : PerPort EventUnit)
    (draws : Nat) (queue : List Instr), P s →
    P { s with resetHeld := held, timer := timer, ports := ports, events := events, tieDraws := draws, pending := queue }
  boundary : ∀ s, P s → P (makeBoundary s)
  publish : ∀ (s : State) (index : Nat), P s → P (publishSet index s)
  demand : ∀ (s : State) (index : Nat) (d : List Byte), P s → P (storeDemand index d s)
  holdSet : ∀ (s : State) (d : List Byte), P s → P (storeHoldSet d s)
  report : ∀ (s : State) (index : Nat) (d : List Byte), P s → P (storeReport index d s)
  staged : ∀ (s : State) (index : Nat) (d : List Byte), s.plan.isPending (partOwner index) = false → P s →
    P { s with plan := s.plan.writePart index d }
  seed : ∀ (s : State) (d : List Byte), P s → P (storeSeed d s)
  commit : ∀ (s : State) (p : Port), s.plan.checkStaged p = none → P s →
    P { s with plan := s.plan.setPending p true }
  withdraw : ∀ (s : State) (p : Port), P s → P { s with plan := s.plan.setPending p false }
  restart : ∀ s, P s → P (restartBlocks s)

namespace BlockInvariant

variable {P : State → Prop} {s t : State} {c : Instr}

theorem timer (h : BlockInvariant P) (x : Timer) (hs : P s) : P { s with timer := x } :=
  h.frame s s.resetHeld x s.ports s.events s.tieDraws s.pending hs

theorem timerEvents (h : BlockInvariant P) (x : Timer) (e : PerPort EventUnit) (hs : P s) :
    P { s with timer := x, events := e } :=
  h.frame s s.resetHeld x s.ports e s.tieDraws s.pending hs

theorem position (h : BlockInvariant P) (x : Position) (hs : P s) : P (takePosition x s) := by
  cases x with
  | restartBoundary | startEnd | freeBoundary => exact h.boundary s hs
  | guardEnd => exact h.timer _ hs
  | publishPoint => exact h.timer _ (h.publish s _ hs)
  | syncDeadline =>
    refine h.boundary _ ?_
    rw [← countSelfBoundary, countSelfBoundary_frame]
    exact h.timerEvents _ _ hs

theorem edge (h : BlockInvariant P) (hs : P s) : P (takeSyncEdge s) := by
  obtain hdrop | ⟨_, hearly⟩ | ⟨_, hnormal⟩ := takeSyncEdge_cases s
  · exact hdrop ▸ h.timer _ hs
  · have hpost : P (s.post .syncEarly [.b]) := h.timerEvents s.timer _ hs
    exact hearly ▸ h.boundary _ (h.timer _ hpost)
  · exact hnormal ▸ h.boundary _ (h.timer _ hs)

theorem restarted (h : BlockInvariant P) (hs : P s) : P (restartTimer (restartBlocks s)) := by
  have hblocks := h.restart s hs
  obtain hboundary | hrequest := restartTimer_cases (restartBlocks s)
  · exact hboundary ▸ h.boundary _ hblocks
  · exact hrequest ▸ h.timer _ hblocks

theorem change (h : BlockInvariant P) (hchange : Change c s t) (hs : P s) : P t := by
  cases hchange with
  | stay => exact hs
  | release sync => exact h.frame s false _ s.ports s.events s.tieDraws s.pending hs
  | position x _ => exact h.position x hs
  | edge _ => exact h.edge hs
  | demand index d => exact h.demand s index d hs
  | holdSet d => exact h.holdSet s d hs
  | report index d => exact h.report s index d hs
  | staged index d hclear => exact h.staged s index d hclear hs
  | seed d => exact h.seed s d hs
  | mask p stray hc v => exact h.timerEvents _ _ hs
  | clearErrors p => exact h.frame s s.resetHeld s.timer _ s.events s.tieDraws s.pending hs
  | commit p hchecked => exact h.commit s p hchecked hs
  | withdraw p => exact h.withdraw s p hs
  | ack p stray hc echo => exact h.timerEvents _ _ hs
  | restart => exact h.restarted hs

/-- Such a property is kept by a command, where a device reset keeps it. -/
theorem kept (h : BlockInvariant P) (c : Instr) (hreset : ∀ s, c = .deviceReset → P s → P (resetState s)) : Kept c P where
  draws s n := h.frame s s.resetHeld s.timer s.ports s.events n s.pending
  port s _ _ _ := h.frame s s.resetHeld s.timer _ s.events s.tieDraws s.pending
  tick _ _ _ := h.timer _
  change _ _ hchange := h.change hchange
  reset := hreset

theorem step (h : BlockInvariant P) (hreset : ∀ s, P s → P (resetState s)) (hs : P s) (hstep : step s = .next t) : P t :=
  Kept.step (fun c => h.kept c fun s _ => hreset s)
    (fun s q => h.frame s s.resetHeld s.timer s.ports s.events s.tieDraws q) hs hstep

end BlockInvariant

end Sys2Proof.Machine
end

section
/-! PROOFS. A boundary stage by stage: the state after each stage, and what a boundary makes of every block. -/

namespace Sys2Proof.Machine

open Sys2Proof

/-! ### The stages (R5) -/

/-- A boundary up to the ageing: the timer stamped, the plan copied, the period's values taken, reports and demand
entries aged. -/
def agedState (s : State) : State := ageDemand (ageReports (takePeriod (copyPlan (stampBoundary s))))

/-- A boundary up to the engine state. -/
def decidedState (s : State) : State := decideEngine (agedState s)

/-- A boundary up to the speed-hold loop. -/
def heldState (s : State) : State := holdStep (decidedState s)

/-- A boundary up to the heat accounts, with the evaluator and the apportioner left. -/
def heatedState (s : State) : State := heatStep (heldState s)

theorem makeBoundary_eq (s : State) : makeBoundary s = apportionStep (heatedState s) := rfl

section Stages

variable (s : State)

/-! #### Up to the ageing -/

@[simp] theorem agedState_resetHeld : (agedState s).resetHeld = s.resetHeld := by simp [agedState]
@[simp] theorem agedState_plan : (agedState s).plan = s.plan.copied := by simp [agedState]
@[simp] theorem agedState_timer : (agedState s).timer = s.timer.stamped.takePeriod s.plan.copied.c.live := by
  simp [agedState]
@[simp] theorem agedState_heat : (agedState s).heat = s.heat := by simp [agedState]
@[simp] theorem agedState_cap : (agedState s).cap = s.cap := by simp [agedState]
@[simp] theorem agedState_app : (agedState s).app = { s.app with pendingSet := none } := by simp [agedState]; rfl
@[simp] theorem agedState_ports : (agedState s).ports = s.ports := by simp [agedState]
@[simp] theorem agedState_tieDraws : (agedState s).tieDraws = s.tieDraws := by simp [agedState]
@[simp] theorem agedState_pending : (agedState s).pending = s.pending := by simp [agedState]

/-- Report intake hands on the copy it has just aged (R62). -/
@[simp] theorem agedState_latched : (agedState s).latched = (agedState s).reports := by simp [agedState]

theorem agedState_reports :
    (agedState s).reports =
      { exhaust := (s.reports.exhaust.aged ExhaustFields.zero s.plan.copied.ages.1 s.plan.copied.ages.2).value,
        trans := (s.reports.trans.aged TransFields.zero s.plan.copied.ages.1 s.plan.copied.ages.2).value,
        axles := (s.reports.axles.aged AxlesFields.zero s.plan.copied.ages.1 s.plan.copied.ages.2).value,
        vehicle := s.reports.vehicle } := by
  simp [agedState, ageReports]

@[simp] theorem agedState_vehicle : (agedState s).reports.vehicle = s.reports.vehicle := by simp [agedState_reports]

theorem agedState_demand :
    (agedState s).demand =
      { s.demand with
        pedal := (ageEntry s.plan.copied.ages.1 s.plan.copied.ages.2 s.demand.pedal).value,
        stalk := (ageEntry s.plan.copied.ages.1 s.plan.copied.ages.2 s.demand.stalk).value } := by
  simp [agedState, ageDemand]

/-! #### Up to the engine state -/

@[simp] theorem decidedState_resetHeld : (decidedState s).resetHeld = s.resetHeld := by simp [decidedState]
@[simp] theorem decidedState_plan : (decidedState s).plan = s.plan.copied := by simp [decidedState]
@[simp] theorem decidedState_timer : (decidedState s).timer = s.timer.stamped.takePeriod s.plan.copied.c.live := by
  simp [decidedState]
@[simp] theorem decidedState_reports : (decidedState s).reports = (agedState s).reports := by simp [decidedState]
@[simp] theorem decidedState_latched : (decidedState s).latched = (agedState s).reports := by simp [decidedState]
@[simp] theorem decidedState_demand : (decidedState s).demand = (agedState s).demand := by simp [decidedState]
@[simp] theorem decidedState_heat : (decidedState s).heat = s.heat := by simp [decidedState]
@[simp] theorem decidedState_cap : (decidedState s).cap = s.cap := by simp [decidedState]
@[simp] theorem decidedState_ports : (decidedState s).ports = s.ports := by simp [decidedState]
@[simp] theorem decidedState_tieDraws : (decidedState s).tieDraws = s.tieDraws := by simp [decidedState]
@[simp] theorem decidedState_pending : (decidedState s).pending = s.pending := by simp [decidedState]

/-- The engine state of a boundary (R144). -/
def boundaryEngine : EngineState := engineOf s.plan.copied.allLive.isSome (agedState s).reports.axles.state.isUsable

@[simp] theorem decidedState_app :
    (decidedState s).app = { s.app with pendingSet := none, engine := boundaryEngine s } := by
  simp [decidedState, decideEngine, boundaryEngine]

/-! #### Up to the speed-hold loop -/

@[simp] theorem heldState_resetHeld : (heldState s).resetHeld = s.resetHeld := by simp [heldState]
@[simp] theorem heldState_plan : (heldState s).plan = s.plan.copied := by simp [heldState]
@[simp] theorem heldState_timer : (heldState s).timer = s.timer.stamped.takePeriod s.plan.copied.c.live := by
  simp [heldState]
@[simp] theorem heldState_reports : (heldState s).reports = (agedState s).reports := by simp [heldState]
@[simp] theorem heldState_latched : (heldState s).latched = (agedState s).reports := by simp [heldState]
@[simp] theorem heldState_heat : (heldState s).heat = s.heat := by simp [heldState]
@[simp] theorem heldState_cap : (heldState s).cap = s.cap := by simp [heldState]
@[simp] theorem heldState_app :
    (heldState s).app = { s.app with pendingSet := none, engine := boundaryEngine s } := by simp [heldState]
@[simp] theorem heldState_ports : (heldState s).ports = s.ports := by simp [heldState]
@[simp] theorem heldState_tieDraws : (heldState s).tieDraws = s.tieDraws := by simp [heldState]
@[simp] theorem heldState_pending : (heldState s).pending = s.pending := by simp [heldState]

/-! #### Up to the heat accounts -/

@[simp] theorem heatedState_resetHeld : (heatedState s).resetHeld = s.resetHeld := by simp [heatedState]
@[simp] theorem heatedState_plan : (heatedState s).plan = s.plan.copied := by simp [heatedState]
@[simp] theorem heatedState_timer : (heatedState s).timer = s.timer.stamped.takePeriod s.plan.copied.c.live := by
  simp [heatedState]
@[simp] theorem heatedState_reports : (heatedState s).reports = (agedState s).reports := by simp [heatedState]
@[simp] theorem heatedState_latched : (heatedState s).latched = (agedState s).reports := by simp [heatedState]
@[simp] theorem heatedState_demand : (heatedState s).demand = (heldState s).demand := by simp [heatedState]
@[simp] theorem heatedState_cap : (heatedState s).cap = s.cap := by simp [heatedState]
@[simp] theorem heatedState_app :
    (heatedState s).app = { s.app with pendingSet := none, engine := boundaryEngine s } := by simp [heatedState]
@[simp] theorem heatedState_ports : (heatedState s).ports = s.ports := by simp [heatedState]
@[simp] theorem heatedState_tieDraws : (heatedState s).tieDraws = s.tieDraws := by simp [heatedState]
@[simp] theorem heatedState_pending : (heatedState s).pending = s.pending := by simp [heatedState]

end Stages

/-! ### What a boundary makes of each block -/

section Boundary

variable (s : State)

@[simp] theorem makeBoundary_resetHeld : (makeBoundary s).resetHeld = s.resetHeld := by simp [makeBoundary_eq]
@[simp] theorem makeBoundary_tieDraws : (makeBoundary s).tieDraws = s.tieDraws := by simp [makeBoundary_eq]
@[simp] theorem makeBoundary_pending : (makeBoundary s).pending = s.pending := by simp [makeBoundary_eq]
@[simp] theorem makeBoundary_reports : (makeBoundary s).reports = (agedState s).reports := by simp [makeBoundary_eq]
@[simp] theorem makeBoundary_latched : (makeBoundary s).latched = (agedState s).reports := by simp [makeBoundary_eq]
@[simp] theorem makeBoundary_demand : (makeBoundary s).demand = (heldState s).demand := by simp [makeBoundary_eq]
@[simp] theorem makeBoundary_heat : (makeBoundary s).heat = (heatedState s).heat := by simp [makeBoundary_eq]
@[simp] theorem makeBoundary_published : (makeBoundary s).app.published = s.app.published := by simp [makeBoundary_eq]
@[simp] theorem makeBoundary_prevE : (makeBoundary s).app.prevE = s.app.prevE := by simp [makeBoundary_eq]
@[simp] theorem makeBoundary_prevR : (makeBoundary s).app.prevR = s.app.prevR := by simp [makeBoundary_eq]
@[simp] theorem makeBoundary_runCount : (makeBoundary s).app.runCount = s.app.runCount := by simp [makeBoundary_eq]
@[simp] theorem makeBoundary_runPosted : (makeBoundary s).app.runPosted = s.app.runPosted := by
  simp [makeBoundary_eq]
@[simp] theorem makeBoundary_engine : (makeBoundary s).app.engine = boundaryEngine s := by simp [makeBoundary_eq]

theorem makeBoundary_pendingSet_isSome : (makeBoundary s).app.pendingSet.isSome = true :=
  apportionStep_pendingSet_isSome _

/-- The elapsed time of a boundary is the counter that it finds. -/
@[simp] theorem Timer.stamped_delta (x : Timer) : x.stamped.delta = some x.counter := rfl

end Boundary

/-! ### The four live sections (R144) -/

theorem PlanStore.allLive_eq_some_iff {x : PlanStore} {live : PlanCopy} :
    x.allLive = some live ↔
      x.e.live = some live.e ∧ x.t.live = some live.t ∧ x.b.live = some live.b ∧ x.c.live = some live.c := by
  obtain ⟨e, t, b, c⟩ := live
  unfold PlanStore.allLive
  split
  next e' t' b' c' he ht hb hc => simp [he, ht, hb, hc]
  next hother =>
    constructor
    · intro h; cases h
    · rintro ⟨he, ht, hb, hc⟩
      exact (hother _ _ _ _ he ht hb hc).elim

theorem PlanStore.allLive_isSome (x : PlanStore) :
    x.allLive.isSome = (x.e.live.isSome && x.t.live.isSome && x.b.live.isSome && x.c.live.isSome) := by
  unfold PlanStore.allLive
  cases x.e.live <;> cases x.t.live <;> cases x.b.live <;> cases x.c.live <;> rfl

/-- A section that a boundary copies stays live, and one that was live stays so (R137). -/
theorem Section.copied_live {α : Type} (x : Section α) :
    x.copied.live = if x.pending then some x.staged else x.live := by
  unfold Section.copied
  split <;> rfl

theorem Section.copied_live_isSome {α : Type} {x : Section α} (h : x.live.isSome = true) :
    x.copied.live.isSome = true := by
  rw [Section.copied_live]
  split
  · rfl
  · exact h

@[simp] theorem PlanStore.copied_e (x : PlanStore) : x.copied.e = x.e.copied := rfl
@[simp] theorem PlanStore.copied_t (x : PlanStore) : x.copied.t = x.t.copied := rfl
@[simp] theorem PlanStore.copied_b (x : PlanStore) : x.copied.b = x.b.copied := rfl
@[simp] theorem PlanStore.copied_c (x : PlanStore) : x.copied.c = x.c.copied := rfl

/-- UNPLANNED is decided exactly while a section is not live (R144). -/
theorem engineOf_eq_unplanned_iff {allLive usable : Bool} : engineOf allLive usable = .unplanned ↔ allLive = false := by
  cases allLive <;> cases usable <;> decide

theorem boundaryEngine_eq_unplanned_iff {s : State} :
    boundaryEngine s = .unplanned ↔ s.plan.copied.allLive = none := by
  simp [boundaryEngine, engineOf_eq_unplanned_iff]

/-! ### The set that a boundary begins -/

section PendingSet

variable {s : State}

/-- While a section is missing, a boundary begins a set of zeros and leaves the evaluator's state (R66, R103). -/
theorem makeBoundary_unplanned (h : s.plan.copied.allLive = none) :
    (makeBoundary s).app.pendingSet = some (GrantSet.zero .unplanned 0) ∧ (makeBoundary s).cap = s.cap := by
  have hstep := apportionStep_unplanned (heatedState s) (by simpa using h)
  rw [makeBoundary_eq, hstep]
  simp

/-- The state that the apportioner computes on: the evaluator's state brought up to date, the lanes posted. -/
def evaluatedState (live : PlanCopy) (s : State) : State := postLanes live (shiftSlipStep live (heatedState s))

/-- With all four sections live, a boundary begins the computed set (R66, R82). -/
theorem makeBoundary_live {live : PlanCopy} (h : s.plan.copied.allLive = some live) :
    (makeBoundary s).app.pendingSet = some (computeSet live (evaluatedState live s)) ∧
    (makeBoundary s).cap = s.cap.next live.t live.b (agedState s).reports s.timer.counter := by
  obtain ⟨hcap, happ⟩ := apportionStep_live (heatedState s) (live := live) (by simpa using h)
  rw [makeBoundary_eq, hcap, happ]
  simp [evaluatedState]

variable (live : PlanCopy) (s)

@[simp] theorem evaluatedState_plan : (evaluatedState live s).plan = s.plan.copied := by simp [evaluatedState]
@[simp] theorem evaluatedState_latched : (evaluatedState live s).latched = (agedState s).reports := by
  simp [evaluatedState]
@[simp] theorem evaluatedState_demand : (evaluatedState live s).demand = (heldState s).demand := by
  simp [evaluatedState]
@[simp] theorem evaluatedState_heat : (evaluatedState live s).heat = (heatedState s).heat := by simp [evaluatedState]
@[simp] theorem evaluatedState_app :
    (evaluatedState live s).app = { s.app with pendingSet := none, engine := boundaryEngine s } := by
  simp [evaluatedState]
@[simp] theorem evaluatedState_cap :
    (evaluatedState live s).cap = s.cap.next live.t live.b (agedState s).reports s.timer.counter := by
  simp [evaluatedState]

end PendingSet

/-! ### What a boundary may post -/

section Postings

variable (s : State)

theorem agedState_postings : Postings [.planApplied, .refresh, .expired] s.events (agedState s).events :=
  (((copyPlan_postings (stampBoundary s)).weaken (by simp)).trans
    ((ageReports_postings (takePeriod (copyPlan (stampBoundary s)))).weaken (by simp))).trans
    ((ageDemand_postings (ageReports (takePeriod (copyPlan (stampBoundary s))))).weaken (by simp))

theorem makeBoundary_postings :
    Postings [.planApplied, .refresh, .expired, .stateChange, .holdDropped, .novalue, .heatSat, .heatState, .shiftLong,
      .slipCut] s.events (makeBoundary s).events :=
  ((((agedState_postings s).weaken (by simp)).trans ((decideEngine_postings (agedState s)).weaken (by simp))).trans
    ((holdStep_postings (decidedState s)).weaken (by simp))).trans
    (((heatStep_postings (heldState s)).weaken (by simp)).trans
      ((apportionStep_postings (heatedState s)).weaken (by simp)))

end Postings

end Sys2Proof.Machine
end

section
/-! PROOFS. The COMMIT checks (chapter 7.5): the model's checks as a list of checks of which the first that fails is
reported, and what it means that none fails. -/

namespace Sys2Proof.Machine

open Sys2Proof

/-! ### The first failing check of a list (R135) -/

section FirstFailing

variable {f : CheckFault} {ok : Bool} {l l' : List (CheckFault × Bool)}

@[simp] theorem firstFault_none_left (x : Option CheckFault) : firstFault none x = x := rfl

@[simp] theorem firstFault_none_right (x : Option CheckFault) : firstFault x none = x := by cases x <;> rfl

theorem firstFault_eq_none_iff {x y : Option CheckFault} : firstFault x y = none ↔ x = none ∧ y = none := by
  cases x <;> simp [firstFault]

theorem firstFault_assoc (x y z : Option CheckFault) : firstFault (firstFault x y) z = firstFault x (firstFault y z) := by
  cases x <;> rfl

@[simp] theorem firstFailing_nil : firstFailing [] = none := rfl

theorem firstFailing_cons : firstFailing ((f, ok) :: l) = firstFault (if ok then none else some f) (firstFailing l) := by
  cases ok <;> rfl

theorem firstFailing_append : firstFailing (l ++ l') = firstFault (firstFailing l) (firstFailing l') := by
  induction l with
  | nil => rfl
  | cons c l ih => rw [List.cons_append, firstFailing_cons, ih, firstFailing_cons, firstFault_assoc]

theorem firstFailing_eq_none_iff : firstFailing l = none ↔ ∀ c ∈ l, c.2 = true := by
  simp [firstFailing]

end FirstFailing

/-- A condition on the entries of a numbered list that does not look at the numbers. -/
theorem forall_mem_zipIdx_fst {α : Type} {P : α → Prop} {l : List α} {n : Nat} :
    (∀ x ∈ l.zipIdx n, P x.1) ↔ ∀ a ∈ l, P a := by
  rw [← List.forall_mem_map (f := Prod.fst), List.zipIdx_map_fst]

/-! ### Fields (R132) -/

section Fields

variable (part : Nat)

/-- The range checks of fields numbered from `n` on are the list's. -/
theorem checkFields_eq (fields : List (Nat × Nat × Nat)) (n : Nat) :
    checkFields part ((fields.zipIdx n).map fun ((lo, hi, v), k) => (k + 1, lo, hi, v)) =
      firstFailing ((fields.zipIdx n).map fun ((lo, hi, v), k) =>
        ({ code := 1, part := part, item := k + 1 }, decide (lo ≤ v) && decide (v ≤ hi))) := by
  induction fields generalizing n with
  | nil => rfl
  | cons field fields ih =>
    obtain ⟨lo, hi, v⟩ := field
    rw [List.zipIdx_cons, List.map_cons, List.map_cons, firstFailing_cons, ← ih]
    rfl

theorem fieldChecks_eq_none_iff {fields : List (Nat × Nat × Nat)} :
    firstFailing (fieldChecks part fields) = none ↔ ∀ x ∈ fields, x.1 ≤ x.2.2 ∧ x.2.2 ≤ x.2.1 := by
  rw [firstFailing_eq_none_iff, fieldChecks, List.forall_mem_map]
  refine Iff.trans ?_ (forall_mem_zipIdx_fst (n := 0))
  simp

end Fields

/-! ### Curves (R132, R133) -/

section Curves

variable (part : Nat) (xlo xhi ylo yhi : Int)

theorem checkPoints_cons (q : Point) (points : List Point) (n : Nat) :
    checkPoints part xlo xhi ylo yhi n (q :: points) =
      firstFault (if inRangeInt xlo xhi q.x then none else some { code := 3, part := part, item := n }) (
      firstFault (if inRangeInt ylo yhi q.y then none else some { code := 4, part := part, item := n })
        (checkPoints part xlo xhi ylo yhi (n + 1) points)) := by
  rw [checkPoints]
  cases inRangeInt xlo xhi q.x
  · rfl
  · cases inRangeInt ylo yhi q.y <;> rfl

/-- The point checks of points numbered from `n` on: each x before its y. -/
theorem checkPoints_eq (points : List Point) (n : Nat) :
    checkPoints part xlo xhi 0 yhi (n + 1) points =
      firstFailing ((points.zipIdx n).flatMap fun (q, k) =>
        [({ code := 3, part := part, item := k + 1 }, decide (xlo ≤ q.x) && decide (q.x ≤ xhi)),
          ({ code := 4, part := part, item := k + 1 }, decide (0 ≤ q.y) && decide (q.y ≤ yhi))]) := by
  induction points generalizing n with
  | nil => rfl
  | cons q points ih =>
    rw [List.zipIdx_cons, List.flatMap_cons, firstFailing_append, ← ih, checkPoints_cons, firstFailing_cons,
      firstFailing_cons, firstFault_assoc, firstFault_assoc]
    rfl

/-- CURVE_ORDER of points numbered from `n + 1` on. -/
theorem checkAscending_eq (points : List Point) (n : Nat) :
    checkAscending part (n + 1) points =
      firstFailing (((points.zip points.tail).zipIdx n).map fun ((q, r), k) =>
        ({ code := 5, part := part, item := k + 2 }, decide (q.x < r.x))) := by
  induction points generalizing n with
  | nil => rfl
  | cons q points ih =>
    cases points with
    | nil => rfl
    | cons r points =>
      have htail := ih (n + 1)
      simp only [List.tail_cons, List.zip_cons_cons, List.zipIdx_cons, List.map_cons, firstFailing_cons] at htail ⊢
      rw [← htail, checkAscending]
      by_cases h : q.x < r.x
      · simp [h, h.not_ge]
      · simp [h, not_lt.mp h, firstFault]

/-- FADE_ORDER of points numbered from `n + 1` on. -/
theorem checkNotRising_eq (points : List Point) (n : Nat) :
    checkNotRising part (n + 1) points =
      firstFailing (((points.zip points.tail).zipIdx n).map fun ((q, r), k) =>
        ({ code := 6, part := part, item := k + 2 }, decide (r.y ≤ q.y))) := by
  induction points generalizing n with
  | nil => rfl
  | cons q points ih =>
    cases points with
    | nil => rfl
    | cons r points =>
      have htail := ih (n + 1)
      simp only [List.tail_cons, List.zip_cons_cons, List.zipIdx_cons, List.map_cons, firstFailing_cons] at htail ⊢
      rw [← htail, checkNotRising]
      by_cases h : r.y ≤ q.y
      · simp [h, h.not_gt]
      · simp [h, not_le.mp h, firstFault]

theorem checkCurve_eq (points : List Point) :
    checkCurve part xlo xhi 0 yhi points = firstFailing (curveChecks part xlo xhi yhi points) := by
  rw [curveChecks, List.cons_append, firstFailing_cons, firstFailing_append, neighbourChecks, checkCurve,
    checkPoints_eq part xlo xhi yhi points 0, checkAscending_eq part points 0, inRange]
  cases decide (2 ≤ points.length) && decide (points.length ≤ 8) <;> rfl

/-- A relation of all neighbours of a list. -/
theorem forall_mem_zip_tail {α : Type} {R : α → α → Prop} {l : List α} :
    (∀ x ∈ l.zip l.tail, R x.1 x.2) ↔ l.IsChain R := by
  induction l with
  | nil => simp
  | cons a l ih =>
    cases l with
    | nil => simp
    | cons b l => simpa using fun _ => ih

/-- Neighbours that all agree make a chain, and for a transitive relation a list ordered throughout. -/
theorem neighbourChecks_eq_none_iff {code : Nat} {ok : Point → Point → Bool}
    (htrans : ∀ a b c, ok a b = true → ok b c = true → ok a c = true) {points : List Point} :
    firstFailing (neighbourChecks code part ok points) = none ↔ points.Pairwise (fun q r => ok q r = true) := by
  have htransitive : Trans (fun q r => ok q r = true) (fun q r => ok q r = true) (fun q r => ok q r = true) :=
    ⟨htrans _ _ _⟩
  rw [← List.isChain_iff_pairwise, ← forall_mem_zip_tail, firstFailing_eq_none_iff, neighbourChecks,
    List.forall_mem_map]
  exact forall_mem_zipIdx_fst (P := fun x : Point × Point => ok x.1 x.2 = true)

/-- A curve that passes: 2 to 8 points, each in its ranges, x strictly ascending. -/
theorem checkCurve_eq_none_iff {points : List Point} :
    checkCurve part xlo xhi 0 yhi points = none ↔
      2 ≤ points.length ∧ points.length ≤ 8 ∧
      (∀ q ∈ points, xlo ≤ q.x ∧ q.x ≤ xhi ∧ 0 ≤ q.y ∧ q.y ≤ yhi) ∧ points.Pairwise (fun q r => q.x < r.x) := by
  have hpoints : (∀ c ∈ (points.zipIdx.flatMap fun (q, n) =>
      [(({ code := 3, part := part, item := n + 1 } : CheckFault), decide (xlo ≤ q.x) && decide (q.x ≤ xhi)),
        ({ code := 4, part := part, item := n + 1 }, decide (0 ≤ q.y) && decide (q.y ≤ yhi))]), c.2 = true) ↔
      ∀ q ∈ points, xlo ≤ q.x ∧ q.x ≤ xhi ∧ 0 ≤ q.y ∧ q.y ≤ yhi := by
    simp only [List.forall_mem_flatMap, List.forall_mem_cons, List.not_mem_nil, Bool.and_eq_true, decide_eq_true_eq]
    refine Iff.trans ?_ (forall_mem_zipIdx_fst (n := 0))
    simp [and_assoc]
  have hascending := neighbourChecks_eq_none_iff part (code := 5) (ok := fun q r => decide (q.x < r.x))
    (fun a b c hab hbc => by simp only [decide_eq_true_eq] at *; omega) (points := points)
  rw [checkCurve_eq, curveChecks, List.cons_append, firstFailing_cons, firstFault_eq_none_iff, firstFailing_append,
    firstFault_eq_none_iff, hascending, firstFailing_eq_none_iff, hpoints]
  simp [and_assoc]

end Curves

/-! ### The four sections (R132 to R135) -/

section Sections

/-- The ranges of an axle part, in field order. -/
def axleFields (a : AxlePlan) : List (Nat × Nat × Nat) :=
  [(1, 400, a.gain), (0, 1000, a.baseShare), (5000, 200000, a.cTh), (1, 500, a.lambda)]

theorem checkE_eq (x : PlanE) :
    checkE x = firstFailing (
      fieldChecks 0 [(1000, 400000, x.rampRate), (0, 3, x.rounding)] ++ curveChecks 1 0 4000 32767 x.curve) := by
  rw [firstFailing_append, ← checkCurve_eq, fieldChecks, ← checkFields_eq]
  rfl

theorem checkT_eq (x : PlanT) :
    checkT x = firstFailing (
      fieldChecks 2 [(1000, 400000, x.rampRate), (256, 4096, x.axleRatio), (350, 650, x.radius),
        (200, 3000, x.shiftMax), (0, 3, x.rounding)] ++ curveChecks 3 0 6000 32767 x.curve) := by
  rw [firstFailing_append, ← checkCurve_eq, fieldChecks, ← checkFields_eq]
  rfl

theorem checkThresholds_eq (x : PlanB) :
    checkThresholds x = firstFailing
      [({ code := 7, part := 4, item := 2 }, decide (x.warmOn < x.hotOn)),
        ({ code := 7, part := 4, item := 3 }, decide (x.hotOn < x.fadeOn))] := by
  unfold checkThresholds
  by_cases hhot : x.warmOn < x.hotOn <;> by_cases hfade : x.hotOn < x.fadeOn <;>
    simp [firstFailing_cons, firstFault, hhot, hfade, not_le.mpr, not_lt.mp]

theorem checkShares_eq (x : PerAxle AxlePlan) :
    checkShares x = firstFailing
      [({ code := 8, part := 5, item := 0 },
        decide (x.front.baseShare + x.drive.baseShare + x.tag.baseShare = 1000))] := by
  simp [checkShares, firstFailing_cons]

theorem checkAxlePlan_eq (part : Nat) (a : AxlePlan) :
    checkAxlePlan part a = firstFailing (fieldChecks part (axleFields a)) := by
  rw [fieldChecks, ← checkFields_eq]
  rfl

theorem checkB_eq (x : PlanB) :
    checkB x = firstFailing (
      fieldChecks 4 [(50, 850, x.warmOn), (50, 850, x.hotOn), (50, 850, x.fadeOn), (5, 50, x.hyst),
        (0, 2000, x.slipHold), (0, 3, x.rounding)] ++
      [({ code := 7, part := 4, item := 2 }, decide (x.warmOn < x.hotOn)),
        ({ code := 7, part := 4, item := 3 }, decide (x.hotOn < x.fadeOn))] ++
      fieldChecks 5 (axleFields x.axles.front) ++ fieldChecks 6 (axleFields x.axles.drive) ++
      fieldChecks 7 (axleFields x.axles.tag) ++ curveChecks 8 (-40) 900 100 x.fade ++
      neighbourChecks 6 8 (fun q r => decide (r.y ≤ q.y)) x.fade ++
      [({ code := 8, part := 5, item := 0 },
        decide (x.axles.front.baseShare + x.axles.drive.baseShare + x.axles.tag.baseShare = 1000))]) := by
  simp only [List.append_assoc]
  simp only [firstFailing_append (l := fieldChecks _ _), firstFailing_append (l := [_, _]),
    firstFailing_append (l := curveChecks _ _ _ _ _), firstFailing_append (l := neighbourChecks _ _ _ _)]
  rw [← checkThresholds_eq, ← checkAxlePlan_eq, ← checkAxlePlan_eq, ← checkAxlePlan_eq, ← checkCurve_eq,
    neighbourChecks, ← checkNotRising_eq, ← checkShares_eq, fieldChecks, ← checkFields_eq]
  rfl

theorem checkPeriod_eq (x : PlanC) :
    checkPeriod x = firstFailing
      [({ code := 9, part := 9, item := 2 }, decide (x.q + 2 ≤ x.p)),
        ({ code := 10, part := 9, item := 6 }, decide (x.softAge < x.hardAge))] := by
  unfold checkPeriod
  by_cases hpublish : x.q + 2 ≤ x.p <;> by_cases hage : x.softAge < x.hardAge <;>
    simp [firstFailing_cons, firstFault, hpublish, hage, not_lt.mpr, not_le.mpr, not_lt.mp, not_le.mp]

theorem checkStalk_eq (x : Stalk) :
    checkStalk x = firstFailing
      [({ code := 11, part := 10, item := 2 }, decide (x.stage1 ≤ x.stage2)),
        ({ code := 11, part := 10, item := 3 }, decide (x.stage2 ≤ x.stage3)),
        ({ code := 11, part := 10, item := 4 }, decide (x.stage3 ≤ x.stage4)),
        ({ code := 11, part := 10, item := 5 }, decide (x.stage4 ≤ x.stage5))] := by
  have hturn : ∀ (a b : Nat) (f : CheckFault) (rest : Option CheckFault),
      (if b < a then some f else rest) = firstFault (if decide (a ≤ b) then none else some f) rest := by
    intro a b f rest
    by_cases h : a ≤ b
    · simp [h, h.not_gt]
    · simp [h, not_le.mp h, firstFault]
  simp only [checkStalk, hturn, firstFailing_cons, firstFailing_nil]

theorem checkC_eq (x : PlanC) :
    checkC x = firstFailing (
      fieldChecks 9 [(10, 50, x.p), (2, 48, x.q), (0, 1, x.syncMode), (0, 1, x.order), (1, 20, x.softAge),
        (2, 60, x.hardAge), (200, 700, x.driveShare), (50, 800, x.mu), (5000, 32000, x.nominalMass), (0, 200, x.kp),
        (0, 200, x.ki), (0, 4000, x.holdMax), (0, 400000, x.shortThreshold), (1, 50, x.shortCount),
        (0, 1600, x.fallbackSpeed), (0, 3, x.rounding)] ++
      [({ code := 9, part := 9, item := 2 }, decide (x.q + 2 ≤ x.p)),
        ({ code := 10, part := 9, item := 6 }, decide (x.softAge < x.hardAge))] ++
      fieldChecks 10 [(0, 4000, x.stalk.stage1), (0, 4000, x.stalk.stage2), (0, 4000, x.stalk.stage3),
        (0, 4000, x.stalk.stage4), (0, 4000, x.stalk.stage5)] ++
      [({ code := 11, part := 10, item := 2 }, decide (x.stalk.stage1 ≤ x.stalk.stage2)),
        ({ code := 11, part := 10, item := 3 }, decide (x.stalk.stage2 ≤ x.stalk.stage3)),
        ({ code := 11, part := 10, item := 4 }, decide (x.stalk.stage3 ≤ x.stalk.stage4)),
        ({ code := 11, part := 10, item := 5 }, decide (x.stalk.stage4 ≤ x.stalk.stage5))]) := by
  simp only [List.append_assoc]
  simp only [firstFailing_append (l := fieldChecks _ _), firstFailing_append (l := [_, _])]
  rw [← checkPeriod_eq, ← checkStalk_eq, fieldChecks, ← checkFields_eq, fieldChecks, ← checkFields_eq]
  rfl

/-! ### What it means that no check fails -/

theorem checkE_eq_none_iff {x : PlanE} :
    checkE x = none ↔
      1000 ≤ x.rampRate ∧ x.rampRate ≤ 400000 ∧ x.rounding ≤ 3 ∧
      2 ≤ x.curve.length ∧ x.curve.length ≤ 8 ∧
      (∀ q ∈ x.curve, 0 ≤ q.x ∧ q.x ≤ 4000 ∧ 0 ≤ q.y ∧ q.y ≤ 32767) ∧ x.curve.Pairwise (fun q r => q.x < r.x) := by
  rw [checkE_eq, firstFailing_append, ← checkCurve_eq, firstFault_eq_none_iff, fieldChecks_eq_none_iff,
    checkCurve_eq_none_iff]
  simp [and_assoc]

theorem checkT_eq_none_iff {x : PlanT} :
    checkT x = none ↔
      1000 ≤ x.rampRate ∧ x.rampRate ≤ 400000 ∧ 256 ≤ x.axleRatio ∧ x.axleRatio ≤ 4096 ∧ 350 ≤ x.radius ∧
      x.radius ≤ 650 ∧ 200 ≤ x.shiftMax ∧ x.shiftMax ≤ 3000 ∧ x.rounding ≤ 3 ∧
      2 ≤ x.curve.length ∧ x.curve.length ≤ 8 ∧
      (∀ q ∈ x.curve, 0 ≤ q.x ∧ q.x ≤ 6000 ∧ 0 ≤ q.y ∧ q.y ≤ 32767) ∧ x.curve.Pairwise (fun q r => q.x < r.x) := by
  rw [checkT_eq, firstFailing_append, ← checkCurve_eq, firstFault_eq_none_iff, fieldChecks_eq_none_iff,
    checkCurve_eq_none_iff]
  simp [and_assoc]

theorem axleFields_in_range_iff {a : AxlePlan} :
    (∀ x ∈ axleFields a, x.1 ≤ x.2.2 ∧ x.2.2 ≤ x.2.1) ↔
      1 ≤ a.gain ∧ a.gain ≤ 400 ∧ a.baseShare ≤ 1000 ∧ 5000 ≤ a.cTh ∧ a.cTh ≤ 200000 ∧ 1 ≤ a.lambda ∧
      a.lambda ≤ 500 := by
  simp [axleFields, and_assoc]

theorem forall_axle {P : Axle → Prop} : (∀ i, P i) ↔ P .front ∧ P .drive ∧ P .tag :=
  ⟨fun h => ⟨h _, h _, h _⟩, fun ⟨hf, hd, ht⟩ i => by cases i <;> assumption⟩

theorem checkB_eq_none_iff {x : PlanB} :
    checkB x = none ↔
      50 ≤ x.warmOn ∧ x.warmOn < x.hotOn ∧ x.hotOn < x.fadeOn ∧ x.fadeOn ≤ 850 ∧ 5 ≤ x.hyst ∧ x.hyst ≤ 50 ∧
      x.slipHold ≤ 2000 ∧ x.rounding ≤ 3 ∧
      (∀ i, 1 ≤ (x.axles.get i).gain ∧ (x.axles.get i).gain ≤ 400 ∧ (x.axles.get i).baseShare ≤ 1000 ∧
        5000 ≤ (x.axles.get i).cTh ∧ (x.axles.get i).cTh ≤ 200000 ∧ 1 ≤ (x.axles.get i).lambda ∧
        (x.axles.get i).lambda ≤ 500) ∧
      x.axles.front.baseShare + x.axles.drive.baseShare + x.axles.tag.baseShare = 1000 ∧
      (2 ≤ x.fade.length ∧ x.fade.length ≤ 8 ∧
        (∀ q ∈ x.fade, -40 ≤ q.x ∧ q.x ≤ 900 ∧ 0 ≤ q.y ∧ q.y ≤ 100) ∧ x.fade.Pairwise (fun q r => q.x < r.x)) ∧
      x.fade.Pairwise (fun q r => r.y ≤ q.y) := by
  have hfade := neighbourChecks_eq_none_iff 8 (code := 6) (ok := fun q r => decide (r.y ≤ q.y))
    (fun a b c hab hbc => by simp only [decide_eq_true_eq] at *; omega) (points := x.fade)
  simp only [decide_eq_true_eq] at hfade
  simp only [checkB_eq, firstFailing_append, firstFault_eq_none_iff, ← checkCurve_eq, axleFields_in_range_iff,
    checkCurve_eq_none_iff, hfade, fieldChecks_eq_none_iff]
  simp only [firstFailing_eq_none_iff, forall_axle, PerAxle.get, List.forall_mem_cons, decide_eq_true_eq]
  constructor
  · rintro ⟨⟨⟨⟨⟨⟨⟨⟨hw, hh, hf, hy, hs, hr, _⟩, hwh, hhf, _⟩, h5⟩, h6⟩, h7⟩, hcurve⟩, hpw⟩, hsum, _⟩
    exact ⟨hw.1, hwh, hhf, hf.2, hy.1, hy.2, hs.2, hr.2, ⟨h5, h6, h7⟩, hsum, hcurve, hpw⟩
  · rintro ⟨hw, hwh, hhf, hf, hy, hy', hs, hr, ⟨h5, h6, h7⟩, hsum, hcurve, hpw⟩
    refine ⟨⟨⟨⟨⟨⟨⟨⟨⟨hw, ?_⟩, ⟨?_, ?_⟩, ⟨?_, hf⟩, ⟨hy, hy'⟩, ⟨?_, hs⟩, ⟨?_, hr⟩, by simp⟩, hwh, hhf, by simp⟩, h5⟩,
      h6⟩, h7⟩, hcurve⟩, hpw⟩, hsum, by simp⟩ <;> omega

theorem checkC_eq_none_iff {x : PlanC} :
    checkC x = none ↔
      10 ≤ x.p ∧ x.p ≤ 50 ∧ 2 ≤ x.q ∧ x.q + 2 ≤ x.p ∧ x.syncMode ≤ 1 ∧ x.order ≤ 1 ∧ 1 ≤ x.softAge ∧
      x.softAge ≤ 20 ∧ x.softAge < x.hardAge ∧ x.hardAge ≤ 60 ∧ 200 ≤ x.driveShare ∧ x.driveShare ≤ 700 ∧
      50 ≤ x.mu ∧ x.mu ≤ 800 ∧ 5000 ≤ x.nominalMass ∧ x.nominalMass ≤ 32000 ∧ x.kp ≤ 200 ∧ x.ki ≤ 200 ∧
      x.holdMax ≤ 4000 ∧ x.shortThreshold ≤ 400000 ∧ 1 ≤ x.shortCount ∧ x.shortCount ≤ 50 ∧
      x.fallbackSpeed ≤ 1600 ∧ x.rounding ≤ 3 ∧ x.stalk.stage1 ≤ x.stalk.stage2 ∧ x.stalk.stage2 ≤ x.stalk.stage3 ∧
      x.stalk.stage3 ≤ x.stalk.stage4 ∧ x.stalk.stage4 ≤ x.stalk.stage5 ∧ x.stalk.stage5 ≤ 4000 := by
  simp only [checkC_eq, firstFailing_append, firstFault_eq_none_iff, fieldChecks_eq_none_iff]
  simp only [firstFailing_eq_none_iff, List.forall_mem_cons, decide_eq_true_eq]
  constructor
  · rintro ⟨⟨⟨⟨hp, hq, hm, ho, hs, hh, hd, hmu, hmass, hkp, hki, hmax, ht, hc, hf, hr, _⟩, hpublish, hage, _⟩, _, _, _,
      _, h5, _⟩, h12, h23, h34, h45, _⟩
    omega
  · intro h
    refine ⟨⟨⟨?_, ?_⟩, ?_⟩, ?_⟩ <;> simp <;> omega

end Sections

/-- Settles O50: each section's checks are those of the list, in its order, and none fails where all are met. -/
theorem commitAcceptsExactlyTheRanges : Obligations.CommitAcceptsExactlyTheRanges :=
  ⟨checkE_eq, checkT_eq, checkB_eq, checkC_eq, fun _ => checkE_eq_none_iff, fun _ => checkT_eq_none_iff,
    fun _ => checkB_eq_none_iff, fun _ => checkC_eq_none_iff⟩

end Sys2Proof.Machine
end

section
/-! PROOFS. The invariants of counts, error counts and stored bytes (R154, R162, R171). -/

namespace Sys2Proof.Machine

open Sys2Proof

/-! ### The event units under a change (R171, R173, R175) -/

section Events

variable {c : Instr} {s t : State} {ks : List EventKind}

/-- Postings of any kind. -/
theorem Postings.any {e f : PerPort EventUnit} (h : Postings ks e f) : Postings allKinds e f :=
  h.weaken fun k _ => mem_allKinds k

theorem countSelfBoundary_postings (s : State) : Postings allKinds s.events (countSelfBoundary s).events :=
  Postings.none.postIf _ _ (mem_allKinds _)

theorem publishSet_postings (s : State) (index : Nat) : Postings allKinds s.events (publishSet index s).events := by
  unfold publishSet
  split
  · exact .none
  · exact (Postings.none.post _ (mem_allKinds _)).postIf _ _ (mem_allKinds _)

theorem takePosition_postings (x : Position) (s : State) : Postings allKinds s.events (takePosition x s).events := by
  cases x with
  | restartBoundary | startEnd | freeBoundary => exact (makeBoundary_postings s).any
  | guardEnd => exact .none
  | publishPoint => exact publishSet_postings s _
  | syncDeadline => exact (countSelfBoundary_postings s).trans (makeBoundary_postings _).any

theorem takeSyncEdge_postings (s : State) : Postings allKinds s.events (takeSyncEdge s).events := by
  obtain h | ⟨_, h⟩ | ⟨_, h⟩ := takeSyncEdge_cases s <;> rw [h]
  · exact .none
  · exact (Postings.none.post _ (mem_allKinds _)).trans
      (makeBoundary_postings (endRun (s.post .syncEarly [.b]))).any
  · exact (makeBoundary_postings (endRun s)).any

theorem restart_postings (s : State) : Postings allKinds s.events (restartTimer (restartBlocks s)).events := by
  have hblocks : Postings allKinds s.events (restartBlocks s).events := Postings.none.post _ (mem_allKinds _)
  obtain h | h := restartTimer_cases (restartBlocks s) <;> rw [h]
  · exact hblocks.trans (makeBoundary_postings _).any
  · exact hblocks

theorem storeReport_postings (index : Nat) (d : List Byte) (s : State) :
    Postings allKinds s.events (storeReport index d s).events := by
  unfold storeReport
  split
  · exact .none
  · exact .none
  · exact .none
  · exact Postings.none.postIf _ _ (mem_allKinds _)
  · exact .none

@[simp] theorem storeDemand_events (index : Nat) (d : List Byte) (s : State) :
    (storeDemand index d s).events = s.events := by
  unfold storeDemand; split <;> rfl

/-- A change posts, or is a write of a mask or an ACK. -/
theorem Change.events_cases (h : Change c s t) :
    Postings allKinds s.events t.events ∨
    (∃ p stray v, c = .writeEventMask p stray ∧
      t.events = s.events.set p { s.events.get p with mask := v }) ∨
    (∃ p stray echo, c = .ack p stray ∧ t.events = s.events.set p ((s.events.get p).acknowledge echo)) := by
  cases h with
  | stay | release | holdSet | staged | seed | clearErrors | commit | withdraw => exact .inl .none
  | position x _ => exact .inl (takePosition_postings x s)
  | edge _ => exact .inl (takeSyncEdge_postings s)
  | demand index d => exact .inl (by rw [storeDemand_events]; exact .none)
  | report index d => exact .inl (storeReport_postings index d s)
  | mask p stray hc v => exact .inr (.inl ⟨p, stray, v, hc, rfl⟩)
  | ack p stray hc echo => exact .inr (.inr ⟨p, stray, echo, hc, rfl⟩)
  | restart => exact .inl (restart_postings s)

theorem Change.countsInRange (h : Change c s t) (hs : CountsInRange s) : CountsInRange t := by
  intro q k
  obtain hposts | ⟨p, _, v, _, hmask⟩ | ⟨p, _, echo, _, hack⟩ := h.events_cases
  · exact hposts.count_le q k (hs q k)
  · rw [hmask, PerPort.get_set]
    split
    next hq => exact hs p k
    next => exact hs q k
  · rw [hack, PerPort.get_set]
    split
    · rw [EventUnit.acknowledge_count]
      exact (Nat.sub_le _ _).trans (hs p k)
    · exact hs q k

/-- At reset SEED_WANTED waits at port B, and nothing else (R177). -/
theorem reset_count (p : Port) (k : EventKind) :
    (State.reset.events.get p).counts.get k = if p = .b ∧ k = .seedWanted then 1 else 0 := by
  cases p <;> cases k <;> rfl

theorem countsInRange_reset : CountsInRange State.reset := by
  intro p k
  rw [reset_count]
  split <;> decide

theorem countsInRange_resetState (s : State) : CountsInRange (resetState s) := countsInRange_reset

theorem countsInRange_kept (c : Instr) : Kept c CountsInRange where
  draws _ _ h := h
  port _ _ _ _ h := h
  tick _ _ _ h := h
  change _ _ := Change.countsInRange
  reset s _ _ := countsInRange_resetState s

end Events

/-! ### The port controllers under a change (R154, R159, R162) -/

section Ports

variable {c : Instr} {s t : State} {x y : PortControl}

@[simp] theorem publishSet_ports (index : Nat) (s : State) : (publishSet index s).ports = s.ports := by
  rw [publishSet_frame]

@[simp] theorem takePosition_ports (x : Position) (s : State) : (takePosition x s).ports = s.ports := by
  cases x with
  | restartBoundary | startEnd | freeBoundary => exact makeBoundary_ports s
  | guardEnd => rfl
  | publishPoint => exact publishSet_ports _ s
  | syncDeadline => rw [takePosition, takeSyncDeadline_eq, makeBoundary_ports, countSelfBoundary_frame]

@[simp] theorem takeSyncEdge_ports (s : State) : (takeSyncEdge s).ports = s.ports := by
  obtain h | ⟨_, h⟩ | ⟨_, h⟩ := takeSyncEdge_cases s <;> rw [h]
  · rfl
  · exact makeBoundary_ports _
  · exact makeBoundary_ports _

@[simp] theorem storeDemand_ports (index : Nat) (d : List Byte) (s : State) :
    (storeDemand index d s).ports = s.ports := by
  unfold storeDemand; split <;> rfl

@[simp] theorem storeReport_ports (index : Nat) (d : List Byte) (s : State) :
    (storeReport index d s).ports = s.ports := by
  unfold storeReport; split <;> simp

/-- A change leaves every port controller, or clears one error count (R163). -/
theorem Change.ports_cases (h : Change c s t) :
    t.ports = s.ports ∨ ∃ p, t.ports = s.ports.set p { s.port p with errors := 0 } := by
  cases h with
  | stay | release | holdSet | staged | seed | commit | withdraw | mask | ack => exact .inl rfl
  | position x _ => exact .inl (takePosition_ports x s)
  | edge _ => exact .inl (takeSyncEdge_ports s)
  | demand index d => exact .inl (storeDemand_ports index d s)
  | report index d => exact .inl (storeReport_ports index d s)
  | clearErrors p => exact .inr ⟨p, rfl⟩
  | restart => exact .inl (restartTimer_ports _)

/-- What a property of single port controllers needs to be kept by every command. -/
theorem forall_port_kept {P : PortControl → Prop} (hchange : ∀ x y, PortChange x y → P x → P y)
    (hclear : ∀ x : PortControl, P x → P { x with errors := 0 }) (hreset : ∀ x : PortControl, P x.resetKeeping)
    (c : Instr) : Kept c fun s => ∀ p, P (s.port p) where
  draws _ _ h := h
  port s p x hx h q := by
    by_cases hq : q = p
    · rw [hq, State.port_setPort_same]
      exact hchange _ _ hx (h p)
    · rw [State.port_setPort_other s p x hq]
      exact h q
  tick _ _ _ h := h
  change s t hchange h q := by
    obtain hports | ⟨p, hports⟩ := hchange.ports_cases
    · rw [State.port, hports]
      exact h q
    · rw [State.port, hports, PerPort.get_set]
      split
      · exact hclear _ (h p)
      · exact h q
  reset s _ _ p := by
    rw [State.port, resetState, PerPort.get_map]
    exact hreset _

theorem PortChange.errors_le (h : PortChange x y) (hx : x.errors ≤ 255) : y.errors ≤ 255 := by
  cases h with
  | level | selected | released | passed => exact hx
  | byte record v => rwa [PortControl.takeByte_keeps_errors]
  | failed => exact Nat.min_le_left _ _

/-- A byte is stored while there is room (R159). -/
theorem Exchange.withData_length_le {x : Exchange} (v : Byte) (h : x.data.length ≤ 33) :
    (x.withData v).data.length ≤ 33 := by
  by_cases hroom : x.data.length < 33
  · simp [Exchange.withData, Config.maxData, hroom]
  · simpa [Exchange.withData, Config.maxData, hroom] using h

theorem PortControl.takeByte_data_length_le (x : PortControl) (record : Nat → Nat → Option (List Byte)) (v : Byte)
    (h : x.xch.data.length ≤ 33) : (x.takeByte record v).xch.data.length ≤ 33 := by
  cases hphase : x.phase with
  | idle => simpa [PortControl.takeByte, hphase] using h
  | inPrefix => simp only [PortControl.takeByte, hphase]; split <;> exact h
  | inIndex => simp only [PortControl.takeByte, hphase]; split <;> exact h
  | inWait => simpa [PortControl.takeByte, hphase, Exchange.counted] using h
  | readOut => simp only [PortControl.takeByte, hphase]; split <;> exact h
  | ended => simpa [PortControl.takeByte, hphase, Exchange.counted] using h
  | dataIn =>
    simp only [PortControl.takeByte, hphase]
    exact Exchange.withData_length_le v h

theorem PortChange.data_length_le (h : PortChange x y) (hx : x.xch.data.length ≤ 33) : y.xch.data.length ≤ 33 := by
  cases h with
  | level => exact hx
  | selected | released | passed | failed => exact Nat.zero_le _
  | byte record v => exact PortControl.takeByte_data_length_le x record v hx

end Ports

/-- Settles O51: postings hold counts at 255 and an ACK lowers them; a failure holds the error count at 255; a byte is
stored while there is room. -/
theorem countsStayInRange : Obligations.CountsStayInRange := by
  have herrors := forall_port_kept (P := fun x => x.errors ≤ 255) (fun _ _ h => h.errors_le)
    (fun _ _ => Nat.zero_le _) (fun _ => Nat.zero_le _)
  have hdata := forall_port_kept (P := fun x => x.xch.data.length ≤ 33) (fun _ _ h => h.data_length_le)
    (fun _ h => h) (fun _ => Nat.zero_le _)
  exact ⟨fun _ _ => Kept.step countsInRange_kept fun _ _ h => h, fun _ _ => Kept.step herrors fun _ _ h => h,
    fun _ _ => Kept.step hdata fun _ _ h => h⟩

end Sys2Proof.Machine
end

section
/-! PROOFS. The invariants of the blocks apart from the clock: the plan that is live or pending, the temperatures, the
integrator and the ages (chapters 3, 4, 6 and 7). -/

namespace Sys2Proof.Machine

open Sys2Proof

/-! ### What the blocks' own actions leave of other blocks -/

section Frames

variable (s : State) (index : Nat) (d : List Byte)

@[simp] theorem publishSet_plan : (publishSet index s).plan = s.plan := by rw [publishSet_frame]
@[simp] theorem publishSet_reports : (publishSet index s).reports = s.reports := by rw [publishSet_frame]
@[simp] theorem publishSet_latched : (publishSet index s).latched = s.latched := by rw [publishSet_frame]
@[simp] theorem publishSet_demand : (publishSet index s).demand = s.demand := by rw [publishSet_frame]
@[simp] theorem publishSet_heat : (publishSet index s).heat = s.heat := by rw [publishSet_frame]

@[simp] theorem storeDemand_plan : (storeDemand index d s).plan = s.plan := by unfold storeDemand; split <;> rfl
@[simp] theorem storeDemand_reports : (storeDemand index d s).reports = s.reports := by
  unfold storeDemand; split <;> rfl
@[simp] theorem storeDemand_latched : (storeDemand index d s).latched = s.latched := by
  unfold storeDemand; split <;> rfl
@[simp] theorem storeDemand_heat : (storeDemand index d s).heat = s.heat := by unfold storeDemand; split <;> rfl
@[simp] theorem storeDemand_app : (storeDemand index d s).app = s.app := by unfold storeDemand; split <;> rfl
@[simp] theorem storeDemand_timer : (storeDemand index d s).timer = s.timer := by unfold storeDemand; split <;> rfl
@[simp] theorem storeDemand_resetHeld : (storeDemand index d s).resetHeld = s.resetHeld := by
  unfold storeDemand; split <;> rfl
@[simp] theorem storeDemand_integrator : (storeDemand index d s).demand.integrator = s.demand.integrator := by
  unfold storeDemand; split <;> rfl

@[simp] theorem storeReport_plan : (storeReport index d s).plan = s.plan := by unfold storeReport; split <;> simp
@[simp] theorem storeReport_demand : (storeReport index d s).demand = s.demand := by
  unfold storeReport; split <;> simp
@[simp] theorem storeReport_latched : (storeReport index d s).latched = s.latched := by
  unfold storeReport; split <;> simp
@[simp] theorem storeReport_heat : (storeReport index d s).heat = s.heat := by unfold storeReport; split <;> simp
@[simp] theorem storeReport_app : (storeReport index d s).app = s.app := by unfold storeReport; split <;> simp
@[simp] theorem storeReport_timer : (storeReport index d s).timer = s.timer := by unfold storeReport; split <;> simp
@[simp] theorem storeReport_resetHeld : (storeReport index d s).resetHeld = s.resetHeld := by
  unfold storeReport; split <;> simp

end Frames

/-! ### The plan that is live or pending (R136, R137) -/

section Plan

variable {α : Type} {check : α → Option CheckFault} {x : Section α} {plan : PlanStore} {s t : State}

/-- A section that is not pending may be written. -/
theorem Section.Checked.restaged (h : x.Checked check) (hclear : x.pending = false) (v : α) :
    ({ x with staged := v } : Section α).Checked check :=
  ⟨h.1, fun hpending => absurd (hclear.symm.trans hpending) Bool.false_ne_true⟩

theorem Section.Checked.marked (h : x.Checked check) (hstaged : check x.staged = none) :
    ({ x with pending := true } : Section α).Checked check :=
  ⟨h.1, fun _ => hstaged⟩

theorem Section.Checked.unmarked (h : x.Checked check) : ({ x with pending := false } : Section α).Checked check :=
  ⟨h.1, fun hpending => absurd hpending Bool.false_ne_true⟩

/-- The content that passed the checks is what becomes live. -/
theorem Section.Checked.copied (h : x.Checked check) : x.copied.Checked check := by
  unfold Section.copied
  split
  next hpending => exact ⟨fun v hv => Option.some.inj hv ▸ h.2 hpending, fun hclear => absurd hclear (by simp)⟩
  next => exact h

/-- Every live and every pending section of a plan store passes its checks. -/
def PlanStore.Checked (x : PlanStore) : Prop :=
  x.e.Checked checkE ∧ x.t.Checked checkT ∧ x.b.Checked checkB ∧ x.c.Checked checkC

theorem planChecked_iff : PlanChecked s ↔ s.plan.Checked := Iff.rfl

theorem PlanStore.Checked.copied (h : plan.Checked) : plan.copied.Checked := by
  obtain ⟨he, ht, hb, hc⟩ := h
  exact ⟨he.copied, ht.copied, hb.copied, hc.copied⟩

theorem PlanStore.Checked.writePart (h : plan.Checked) {index : Nat} (d : List Byte)
    (hclear : plan.isPending (partOwner index) = false) : (plan.writePart index d).Checked := by
  obtain ⟨he, ht, hb, hc⟩ := h
  match index, hclear with
  | 0, hclear | 1, hclear => exact ⟨he.restaged hclear _, ht, hb, hc⟩
  | 2, hclear | 3, hclear => exact ⟨he, ht.restaged hclear _, hb, hc⟩
  | 4, hclear | 5, hclear | 6, hclear | 7, hclear | 8, hclear => exact ⟨he, ht, hb.restaged hclear _, hc⟩
  | 9, hclear | 10, hclear => exact ⟨he, ht, hb, hc.restaged hclear _⟩
  | _ + 11, _ => exact ⟨he, ht, hb, hc⟩

theorem PlanStore.Checked.commit (h : plan.Checked) (p : Port) (hstaged : plan.checkStaged p = none) :
    (plan.setPending p true).Checked := by
  obtain ⟨he, ht, hb, hc⟩ := h
  cases p with
  | e => exact ⟨he.marked hstaged, ht, hb, hc⟩
  | t => exact ⟨he, ht.marked hstaged, hb, hc⟩
  | b => exact ⟨he, ht, hb.marked hstaged, hc⟩
  | c => exact ⟨he, ht, hb, hc.marked hstaged⟩

theorem PlanStore.Checked.withdraw (h : plan.Checked) (p : Port) : (plan.setPending p false).Checked := by
  obtain ⟨he, ht, hb, hc⟩ := h
  cases p with
  | e => exact ⟨he.unmarked, ht, hb, hc⟩
  | t => exact ⟨he, ht.unmarked, hb, hc⟩
  | b => exact ⟨he, ht, hb.unmarked, hc⟩
  | c => exact ⟨he, ht, hb, hc.unmarked⟩

theorem planChecked_invariant : BlockInvariant PlanChecked where
  frame _ _ _ _ _ _ _ h := h
  boundary s h := by
    rw [planChecked_iff, makeBoundary_plan]
    exact PlanStore.Checked.copied h
  publish s index h := by rwa [planChecked_iff, publishSet_plan]
  demand s index d h := by rwa [planChecked_iff, storeDemand_plan]
  holdSet _ _ h := h
  report s index d h := by rwa [planChecked_iff, storeReport_plan]
  staged s index d hclear h := PlanStore.Checked.writePart h d hclear
  seed _ _ h := h
  commit s p hstaged h := PlanStore.Checked.commit h p hstaged
  withdraw s p h := PlanStore.Checked.withdraw h p
  restart _ h := h

/-- A plan store with nothing live and nothing pending passes. -/
theorem planChecked_reset : PlanChecked State.reset := by
  refine ⟨⟨?_, ?_⟩, ⟨?_, ?_⟩, ⟨?_, ?_⟩, ⟨?_, ?_⟩⟩ <;> simp [State.reset, PlanStore.reset]

end Plan

/-- Settles O53: only a section that is not pending is written, only one that passes is marked, and only a marked one
becomes live. -/
theorem livePlanStaysChecked : Obligations.LivePlanStaysChecked :=
  fun _ _ => planChecked_invariant.step fun _ _ => planChecked_reset

/-! ### The temperatures (R113 to R115) -/

section Heat

variable {s : State}

/-- With section B live, each account makes its step, and its grade and marks with it. -/
theorem heatStep_account {b : PlanB} (h : s.plan.b.live = some b) (i : Axle) :
    (heatStep s).heat.accounts.get i = (boundaryStep s b i).account := by
  simp [heatStep, h]

/-- While section B is not live, the accounts stay (R110). -/
theorem heatStep_accounts_of_not_live (h : s.plan.b.live = none) :
    (heatStep s).heat.accounts = s.heat.accounts := by
  simp [heatStep, h]

theorem heatRise_nonneg (f v delta cTh : Nat) : 0 ≤ heatRise f v delta cTh :=
  roundDiv_nonneg .up (Int.natCast_nonneg _) (Int.natCast_nonneg _)

/-- The floor of an account is the ambient or its own temperature (R114), and its ceiling 900 degrees C (R115). -/
theorem stepAccount_temp_mem (b : PlanB) (ax : AxlePlan) (f v delta : Nat) {ambient : Int} {a : HeatAccount}
    (ha : Config.heatFloor ≤ a.temp) (hambient : Config.heatFloor ≤ ambient) :
    Config.heatFloor ≤ (stepAccount b ax f v delta ambient a).account.temp ∧
    (stepAccount b ax f v delta ambient a).account.temp ≤ Config.heatCeiling := by
  have hrise := heatRise_nonneg f v delta ax.cTh
  refine ⟨le_min ?_ (by decide), min_le_right _ _⟩
  unfold heatBeforeCeiling
  split
  · exact hambient.trans (le_max_left _ _)
  · omega

theorem latchedAmbient_floor {r : Reports} (h : AmbientInRange r) :
    Config.heatFloor ≤ latchedAmbient r * Config.heatUnit := by
  obtain ⟨hlow, _⟩ := h
  unfold latchedAmbient
  split <;> simp only [Config.heatFloor, Config.heatUnit, Config.defaultAmbient] <;> omega

theorem makeBoundary_heatInRange (h : HeatInRange s) : HeatInRange (makeBoundary s) := by
  obtain ⟨haccounts, hreports, _⟩ := h
  have haged : AmbientInRange (agedState s).reports := by rwa [AmbientInRange, agedState_vehicle]
  refine ⟨fun i => ?_, by rwa [makeBoundary_reports], by rwa [makeBoundary_latched]⟩
  rw [makeBoundary_heat, heatedState]
  cases hb : (heldState s).plan.b.live with
  | none =>
    rw [heatStep_accounts_of_not_live hb, heldState_heat]
    exact haccounts i
  | some b =>
    rw [heatStep_account hb]
    refine stepAccount_temp_mem b _ _ _ _ ?_ ?_
    · rw [heldState_heat]
      exact (haccounts i).1
    · rw [heldState_latched]
      exact latchedAmbient_floor haged

theorem clampInt_mem {lo hi : Int} (h : lo ≤ hi) (n : Int) : lo ≤ clampInt lo hi n ∧ clampInt lo hi n ≤ hi :=
  ⟨le_max_left _ _, max_le h (min_le_left _ _)⟩

/-- A VEHICLE write brings the ambient into its range; the other reports leave VEHICLE (R61). -/
theorem storeReport_ambientInRange (index : Nat) (d : List Byte) (h : AmbientInRange s.reports) :
    AmbientInRange (storeReport index d s).reports := by
  match index with
  | 0 | 1 | 2 => exact h
  | 3 => exact clampInt_mem (by decide) _
  | _ + 4 => exact h

/-- A seed is brought into the range, or the account stays (R122). -/
theorem seedAccount_temp_mem (v : Option Int) {a : HeatAccount}
    (h : Config.heatFloor ≤ a.temp ∧ a.temp ≤ Config.heatCeiling) :
    Config.heatFloor ≤ (seedAccount v a).temp ∧ (seedAccount v a).temp ≤ Config.heatCeiling := by
  cases v with
  | none => exact h
  | some x =>
    unfold seedAccount
    simp only
    split
    · exact h
    · obtain ⟨hlow, hhigh⟩ := clampInt_mem (show (-40 : Int) ≤ 900 by decide) x
      simp only [Config.heatFloor, Config.heatCeiling, Config.heatUnit]
      omega

theorem heatInRange_invariant : BlockInvariant HeatInRange where
  frame _ _ _ _ _ _ _ h := h
  boundary _ := makeBoundary_heatInRange
  publish s index h := by
    rw [HeatInRange, publishSet_heat, publishSet_reports, publishSet_latched]
    exact h
  demand s index d h := by
    rw [HeatInRange, storeDemand_heat, storeDemand_reports, storeDemand_latched]
    exact h
  holdSet _ _ h := h
  report s index d h := by
    obtain ⟨haccounts, hreports, hlatched⟩ := h
    rw [HeatInRange, storeReport_heat, storeReport_latched]
    exact ⟨haccounts, storeReport_ambientInRange index d hreports, hlatched⟩
  staged _ _ _ _ h := h
  seed s d h := by
    obtain ⟨haccounts, hambients⟩ := h
    refine ⟨fun i => ?_, hambients⟩
    rw [storeSeed, PerAxle.get_map]
    exact seedAccount_temp_mem _ (haccounts i)
  commit _ _ _ h := h
  withdraw _ _ h := h
  restart _ h := h

theorem heatInRange_reset : HeatInRange State.reset := by
  refine ⟨fun i => ?_, by constructor <;> decide, by constructor <;> decide⟩
  cases i <;> decide

end Heat

/-- Settles O52: a step lies between its floor and the ceiling, and a seed and an ambient are brought into their
ranges. -/
theorem temperaturesStayInRange : Obligations.TemperaturesStayInRange :=
  fun _ _ => heatInRange_invariant.step fun _ _ => heatInRange_reset

/-! ### The integrator (R46, R50, R57) -/

section Integrator

variable {s : State}

theorem nextIntegrator_le (ki holdMax delta : Nat) (error : Int) (frozen : Bool) (i : Nat) :
    nextIntegrator ki holdMax delta error frozen i ≤ holdMax * 1024 :=
  Int.toNat_le.mpr (clampInt_mem (Int.natCast_nonneg _) _).2

/-- An integrator of 0 is in range, whatever is live. -/
theorem integratorInRange_of_zero (h : s.demand.integrator = 0) : IntegratorInRange s := by
  unfold IntegratorInRange
  split
  · omega
  · exact h

/-- The loop clamps the integrator, and every other case of the resolver makes it 0. -/
theorem holdStep_integratorInRange (s : State) : IntegratorInRange (holdStep s) := by
  unfold holdStep
  split
  · exact integratorInRange_of_zero rfl
  · split
    next c _ hc =>
      simp only [IntegratorInRange, hc]
      exact nextIntegrator_le _ _ _ _ _ _
    next => exact integratorInRange_of_zero rfl
    next => exact integratorInRange_of_zero rfl

theorem integratorInRange_congr {t : State} (hplan : t.plan.c.live = s.plan.c.live)
    (hdemand : t.demand.integrator = s.demand.integrator) (h : IntegratorInRange s) : IntegratorInRange t := by
  unfold IntegratorInRange
  rw [hplan, hdemand]
  exact h

theorem PlanStore.writePart_live (plan : PlanStore) (index : Nat) (d : List Byte) :
    (plan.writePart index d).e.live = plan.e.live ∧ (plan.writePart index d).t.live = plan.t.live ∧
    (plan.writePart index d).b.live = plan.b.live ∧ (plan.writePart index d).c.live = plan.c.live := by
  unfold PlanStore.writePart
  split <;> exact ⟨rfl, rfl, rfl, rfl⟩

theorem PlanStore.setPending_live (plan : PlanStore) (p : Port) (v : Bool) :
    (plan.setPending p v).e.live = plan.e.live ∧ (plan.setPending p v).t.live = plan.t.live ∧
    (plan.setPending p v).b.live = plan.b.live ∧ (plan.setPending p v).c.live = plan.c.live := by
  cases p <;> exact ⟨rfl, rfl, rfl, rfl⟩

theorem integratorInRange_invariant : BlockInvariant IntegratorInRange where
  frame _ _ _ _ _ _ _ h := h
  boundary s _ := integratorInRange_congr (s := heldState s) (by simp) (by simp)
    (holdStep_integratorInRange (decidedState s))
  publish s index := integratorInRange_congr (by simp) (by simp)
  demand s index d := integratorInRange_congr (by simp) (by simp)
  holdSet _ _ h := h
  report s index d := integratorInRange_congr (by simp) (by simp)
  staged s index d _ := integratorInRange_congr (PlanStore.writePart_live s.plan index d).2.2.2 rfl
  seed _ _ h := h
  commit s p _ := integratorInRange_congr (PlanStore.setPending_live s.plan p true).2.2.2 rfl
  withdraw s p := integratorInRange_congr (PlanStore.setPending_live s.plan p false).2.2.2 rfl
  restart _ _ := integratorInRange_of_zero rfl

theorem integratorInRange_reset : IntegratorInRange State.reset := integratorInRange_of_zero rfl

end Integrator

/-! ### The ages (R37, R41, R60, R63) -/

section Ages

variable {α : Type} {s : State} {soft hard : Nat}

/-- The hard age that holds is at most 60 (R42, R132). -/
theorem PlanStore.Checked.ages_le {plan : PlanStore} (h : plan.Checked) : plan.ages.2 ≤ 60 := by
  obtain ⟨_, _, _, hc⟩ := h
  unfold PlanStore.ages
  split
  next c hlive =>
    have hranges := checkC_eq_none_iff.mp (hc.1 c hlive)
    show c.hardAge ≤ 60
    omega
  next => decide

/-- A report that ageing leaves in use is younger than the hard age; any other keeps its age or has age 0. -/
theorem Report.aged_age_le (zero : α) (r : Report α) (hhard : hard ≤ 60) (h : r.age ≤ 60) :
    (r.aged zero soft hard).value.age ≤ 60 := by
  unfold Report.aged
  split
  · exact h
  · split
    · exact Nat.zero_le _
    · split <;> simp only <;> omega

theorem ageEntry_age_le (x : Option DemandEntry) (hhard : hard ≤ 60) {entry : DemandEntry}
    (h : (ageEntry soft hard x).value = some entry) : entry.age ≤ 60 := by
  cases x with
  | none => cases h
  | some old =>
    unfold ageEntry at h
    simp only at h
    split at h
    · cases h
    · split at h <;> cases h <;> simp only <;> omega

/-- The speed-hold loop leaves PEDAL and STALK. -/
theorem holdStep_entries (s : State) :
    (holdStep s).demand.pedal = s.demand.pedal ∧ (holdStep s).demand.stalk = s.demand.stalk := by
  unfold holdStep
  split
  · exact ⟨rfl, rfl⟩
  · split <;> exact ⟨rfl, rfl⟩

theorem heldState_pedal (s : State) :
    (heldState s).demand.pedal = (ageEntry s.plan.copied.ages.1 s.plan.copied.ages.2 s.demand.pedal).value := by
  rw [heldState, (holdStep_entries _).1, decidedState_demand, agedState_demand]

theorem heldState_stalk (s : State) :
    (heldState s).demand.stalk = (ageEntry s.plan.copied.ages.1 s.plan.copied.ages.2 s.demand.stalk).value := by
  rw [heldState, (holdStep_entries _).2, decidedState_demand, agedState_demand]

theorem makeBoundary_agesInRange (h : AgesInRange s) (hplan : PlanChecked s) : AgesInRange (makeBoundary s) := by
  obtain ⟨_, _, hexhaust, htrans, haxles⟩ := h
  have hhard : s.plan.copied.ages.2 ≤ 60 := (PlanStore.Checked.copied hplan).ages_le
  rw [AgesInRange, makeBoundary_demand, heldState_pedal, heldState_stalk, makeBoundary_reports, agedState_reports]
  exact ⟨fun _ => ageEntry_age_le _ hhard, fun _ => ageEntry_age_le _ hhard, Report.aged_age_le _ _ hhard hexhaust,
    Report.aged_age_le _ _ hhard htrans, Report.aged_age_le _ _ hhard haxles⟩

/-- A written entry has age 0. -/
theorem storeDemand_agesInRange (index : Nat) (d : List Byte) (h : AgesInRange s) :
    AgesInRange (storeDemand index d s) := by
  obtain ⟨hpedal, hstalk, hreports⟩ := h
  match index with
  | 0 => exact ⟨fun x hx => by cases hx; exact Nat.zero_le _, hstalk, hreports⟩
  | 1 => exact ⟨hpedal, fun x hx => by cases hx; exact Nat.zero_le _, hreports⟩
  | _ + 2 => exact ⟨hpedal, hstalk, hreports⟩

/-- A written report has age 0. -/
theorem storeReport_agesInRange (index : Nat) (d : List Byte) (h : AgesInRange s) :
    AgesInRange (storeReport index d s) := by
  obtain ⟨hpedal, hstalk, hexhaust, htrans, haxles⟩ := h
  rw [AgesInRange, storeReport_demand]
  match index with
  | 0 => exact ⟨hpedal, hstalk, Nat.zero_le _, htrans, haxles⟩
  | 1 => exact ⟨hpedal, hstalk, hexhaust, Nat.zero_le _, haxles⟩
  | 2 => exact ⟨hpedal, hstalk, hexhaust, htrans, Nat.zero_le _⟩
  | 3 => exact ⟨hpedal, hstalk, hexhaust, htrans, haxles⟩
  | _ + 4 => exact ⟨hpedal, hstalk, hexhaust, htrans, haxles⟩

/-- RESTART empties the entries and leaves the reports (R59). -/
theorem restartBlocks_agesInRange (h : AgesInRange s) : AgesInRange (restartBlocks s) := by
  obtain ⟨_, _, hreports⟩ := h
  exact ⟨fun _ hx => (by cases hx), fun _ hx => (by cases hx), hreports⟩

/-- The ages with the plan whose hard age bounds them. -/
theorem agesInRange_invariant : BlockInvariant fun s => AgesInRange s ∧ PlanChecked s where
  frame _ _ _ _ _ _ _ h := h
  boundary s h := ⟨makeBoundary_agesInRange h.1 h.2, planChecked_invariant.boundary s h.2⟩
  publish s index h := ⟨by rw [AgesInRange, publishSet_demand, publishSet_reports]; exact h.1,
    planChecked_invariant.publish s index h.2⟩
  demand s index d h := ⟨storeDemand_agesInRange index d h.1, planChecked_invariant.demand s index d h.2⟩
  holdSet _ _ h := h
  report s index d h := ⟨storeReport_agesInRange index d h.1, planChecked_invariant.report s index d h.2⟩
  staged s index d hclear h := ⟨h.1, planChecked_invariant.staged s index d hclear h.2⟩
  seed _ _ h := h
  commit s p hstaged h := ⟨h.1, planChecked_invariant.commit s p hstaged h.2⟩
  withdraw s p h := ⟨h.1, planChecked_invariant.withdraw s p h.2⟩
  restart s h := ⟨restartBlocks_agesInRange h.1, h.2⟩

theorem agesInRange_reset : AgesInRange State.reset := by
  refine ⟨?_, ?_, ?_, ?_, ?_⟩ <;> simp [State.reset, Demand.reset, Reports.reset, Report.absent]

end Ages

/-- Settles O56: the loop clamps the integrator, and no age reaches the hard age, which a checked plan holds within
60. -/
theorem integratorAndAgesStayInRange : Obligations.IntegratorAndAgesStayInRange :=
  ⟨fun _ _ => integratorInRange_invariant.step fun _ _ => integratorInRange_reset,
    fun _ _ hages hplan hstep => (agesInRange_invariant.step
      (fun _ _ => ⟨agesInRange_reset, planChecked_reset⟩) ⟨hages, hplan⟩ hstep).1⟩

end Sys2Proof.Machine
end

section
/-! PROOFS. The period timer (chapter 1): its commands, the tick, and the invariants that look at the timer. -/

namespace Sys2Proof.Machine

open Sys2Proof

/-! ### The timer after a boundary (R3 to R5) -/

section BoundaryTimer

variable (x : Timer) (c : Option PlanC) (s : State)

@[simp] theorem Timer.takePeriod_phase : (x.takePeriod c).phase = x.phase := by cases c <;> rfl
@[simp] theorem Timer.takePeriod_counter : (x.takePeriod c).counter = x.counter := by cases c <;> rfl
@[simp] theorem Timer.takePeriod_restartReq : (x.takePeriod c).restartReq = x.restartReq := by cases c <;> rfl
@[simp] theorem Timer.takePeriod_index : (x.takePeriod c).index = x.index := by cases c <;> rfl
@[simp] theorem Timer.takePeriod_syncPrev : (x.takePeriod c).syncPrev = x.syncPrev := by cases c <;> rfl
@[simp] theorem Timer.takePeriod_syncEdge : (x.takePeriod c).syncEdge = x.syncEdge := by cases c <;> rfl

@[simp] theorem makeBoundary_timer_phase : (makeBoundary s).timer.phase = .guarding := by
  rw [makeBoundary_timer, Timer.takePeriod_phase]; rfl
@[simp] theorem makeBoundary_timer_counter : (makeBoundary s).timer.counter = 0 := by
  rw [makeBoundary_timer, Timer.takePeriod_counter]; rfl
@[simp] theorem makeBoundary_timer_restartReq : (makeBoundary s).timer.restartReq = false := by
  rw [makeBoundary_timer, Timer.takePeriod_restartReq]; rfl
@[simp] theorem makeBoundary_timer_index : (makeBoundary s).timer.index = s.timer.index := by
  rw [makeBoundary_timer, Timer.takePeriod_index]; rfl
@[simp] theorem makeBoundary_timer_syncPrev : (makeBoundary s).timer.syncPrev = s.timer.syncPrev := by
  rw [makeBoundary_timer, Timer.takePeriod_syncPrev]; rfl
@[simp] theorem makeBoundary_timer_syncEdge : (makeBoundary s).timer.syncEdge = s.timer.syncEdge := by
  rw [makeBoundary_timer, Timer.takePeriod_syncEdge]; rfl

end BoundaryTimer

/-- Settles O9: the timer is stamped, and then takes the values of section C as copied. -/
theorem boundaryStampsTheTimer : Obligations.BoundaryStampsTheTimer := by
  intro s
  rw [makeBoundary_timer, makeBoundary_plan]
  cases s.plan.copied.c.live with
  | none => rfl
  | some c =>
    by_cases hmode : c.syncMode = 0 <;> simp [Timer.takePeriod, Timer.stamped, syncModeOfCode, hmode]

/-! ### The positions, as makers of boundaries -/

/-- A position moves the phase on, publishes, or makes a boundary, before which it may count the run. -/
theorem takePosition_cases (x : Position) (s : State) :
    (x = .guardEnd ∧ takePosition x s = takeGuardEnd s) ∨
    (x = .publishPoint ∧ takePosition x s = takePublishPoint s) ∨
    ∃ n e, takePosition x s = makeBoundary { s with timer := { s.timer with runCount := n }, events := e } := by
  cases x with
  | restartBoundary | startEnd | freeBoundary => exact .inr (.inr ⟨s.timer.runCount, s.events, rfl⟩)
  | guardEnd => exact .inl ⟨rfl, rfl⟩
  | publishPoint => exact .inr (.inl ⟨rfl, rfl⟩)
  | syncDeadline => exact .inr (.inr ⟨_, _, congrArg makeBoundary (countSelfBoundary_frame s)⟩)

/-- An edge is dropped, or makes a boundary in OPEN or CLOSED. -/
theorem takeSyncEdge_boundary (s : State) :
    takeSyncEdge s = dropEdge s ∨
    (s.timer.phase = .openPhase ∨ s.timer.phase = .closed) ∧
      ∃ e, takeSyncEdge s =
        makeBoundary { s with timer := { s.timer with syncEdge := false, runCount := 0 }, events := e } := by
  obtain h | ⟨hphase, h⟩ | ⟨hphase, h⟩ := takeSyncEdge_cases s
  · exact .inl h
  · exact .inr ⟨.inl hphase, _, h⟩
  · exact .inr ⟨.inr hphase, _, h⟩

/-- A timer just stamped has no position due. -/
theorem due_of_stamped {x : Timer} (hphase : x.phase = .guarding) (hcounter : x.counter = 0) : x.due = none := by
  simp [Timer.due, hphase, hcounter, Config.guardTicks]

/-! ### The ranges of the timer (R1, R2, R8) -/

section Ranges

variable {x : Timer} {s t : State}

/-- The ranges that do not depend on the counter and the phase (R1). -/
def Timer.Ranged (x : Timer) : Prop :=
  10 ≤ x.p ∧ x.p ≤ 50 ∧ 2 ≤ x.q ∧ x.q + 2 ≤ x.p ∧ x.index < 65536 ∧ x.runCount ≤ 3 ∧ (x.mode = .free → x.runCount = 0)

theorem TimerInRange.ranged (h : TimerInRange x) : x.Ranged := by
  obtain ⟨_, _, _, hp, hp', hq, hq', _, hindex, hrun, hfree, _⟩ := h
  exact ⟨hp, hp', hq, hq', hindex, hrun, hfree⟩

/-- A boundary at a counter of 20 to 625 leaves the timer in its ranges, with a checked plan. -/
theorem makeBoundary_timerInRange (h : s.timer.Ranged) (hlow : 20 ≤ s.timer.counter) (hhigh : s.timer.counter ≤ 625)
    (hplan : PlanChecked s) : TimerInRange (makeBoundary s).timer := by
  obtain ⟨hp, hp', hq, hq', hindex, hrun, hfree⟩ := h
  obtain ⟨_, _, _, hchecked, _⟩ := PlanStore.Checked.copied hplan
  have hdelta : ∀ d, some s.timer.counter = some d → 20 ≤ d ∧ d ≤ 625 := fun d hd => by
    cases hd; exact ⟨hlow, hhigh⟩
  rw [makeBoundary_timer]
  cases hc : s.plan.copied.c.live with
  | none =>
    exact ⟨Nat.zero_le _, Nat.zero_le _, Nat.zero_le _, hp, hp', hq, hq', hdelta, hindex, hrun, hfree,
      fun hreq => absurd hreq Bool.false_ne_true⟩
  | some c =>
    have hranges := checkC_eq_none_iff.mp (hchecked c hc)
    refine ⟨Nat.zero_le _, Nat.zero_le _, Nat.zero_le _, by simp only [Timer.takePeriod]; omega,
      by simp only [Timer.takePeriod]; omega, by simp only [Timer.takePeriod]; omega,
      by simp only [Timer.takePeriod]; omega, hdelta, hindex, ?_, ?_, fun hreq => absurd hreq Bool.false_ne_true⟩
    · simp only [Timer.takePeriod]
      split
      · exact Nat.zero_le _
      · exact hrun
    · intro hmode
      exact if_pos hmode

/-- The guard end opens the period between the guard end and the publish point. -/
theorem takeGuardEnd_timerInRange (h : TimerInRange s.timer) (hdue : s.timer.due = some .guardEnd) :
    TimerInRange (takeGuardEnd s).timer := by
  obtain ⟨hphase, hreq, hreached⟩ := due_guardEnd_iff.mp hdue
  obtain ⟨_, hlimit, hcounter, hp, hp', hq, hq', hdelta, hindex, hrun, hfree, _⟩ := h
  simp only [Timer.limit, hphase] at hlimit
  refine ⟨hreached, ?_, hcounter, hp, hp', hq, hq', hdelta, hindex, hrun, hfree,
    fun hset => absurd (hreq.symm.trans hset) Bool.false_ne_true⟩
  simp only [takeGuardEnd, Timer.limit, Config.guardTicks] at hlimit ⊢
  omega

/-- The publish point closes the period before its boundary. -/
theorem takePublishPoint_timerInRange (h : TimerInRange s.timer) (hdue : s.timer.due = some .publishPoint) :
    TimerInRange (takePublishPoint s).timer ∧ (takePublishPoint s).timer.due = none := by
  obtain ⟨hphase, hreached⟩ := due_publishPoint_iff.mp hdue
  obtain ⟨_, hlimit, hcounter, hp, hp', hq, hq', hdelta, hindex, hrun, hfree, hreq⟩ := h
  have hopen : s.timer.restartReq = true → False := fun hset => by
    obtain h | h := hreq hset <;> simp [hphase] at h
  simp only [Timer.limit, hphase] at hlimit
  rw [takePublishPoint_frame]
  constructor
  · refine ⟨hreached, ?_, hcounter, hp, hp', hq, hq', hdelta, Nat.mod_lt _ (by decide), hrun, hfree,
      fun hset => (hopen hset).elim⟩
    cases hmode : s.timer.mode <;> simp [Timer.limit, hmode, syncDeadline] <;> omega
  · have hfreeLater : s.timer.counter < s.timer.p * 10 := by omega
    have hsyncLater : s.timer.counter < syncDeadline s.timer.p := by unfold syncDeadline; omega
    cases hmode : s.timer.mode <;> simp [Timer.due, hmode, hfreeLater, hsyncLater]

/-- A due boundary stands at 20 ticks or later. -/
theorem takePosition_timerInRange {x : Position} (h : TimerInRange s.timer) (hplan : PlanChecked s)
    (hdue : s.timer.due = some x) : TimerInRange (takePosition x s).timer := by
  have hranged := h.ranged
  obtain ⟨hentry, _, hcounter, _⟩ := id h
  cases x with
  | restartBoundary =>
    obtain ⟨_, _, hreached⟩ := due_restartBoundary_iff.mp hdue
    exact makeBoundary_timerInRange hranged hreached hcounter hplan
  | startEnd =>
    obtain ⟨_, _, hreached⟩ := due_startEnd_iff.mp hdue
    exact makeBoundary_timerInRange hranged (le_trans (by decide) hreached) hcounter hplan
  | guardEnd => exact takeGuardEnd_timerInRange h hdue
  | publishPoint => exact (takePublishPoint_timerInRange h hdue).1
  | freeBoundary =>
    obtain ⟨_, _, hreached⟩ := due_freeBoundary_iff.mp hdue
    obtain ⟨hp, _⟩ := id hranged
    exact makeBoundary_timerInRange hranged (by omega) hcounter hplan
  | syncDeadline =>
    obtain ⟨_, hmode, hreached⟩ := due_syncDeadline_iff.mp hdue
    obtain ⟨hp, hp', hq, hq', hindex, _, _⟩ := hranged
    rw [syncDeadline] at hreached
    rw [takePosition, takeSyncDeadline_eq, countSelfBoundary_frame]
    exact makeBoundary_timerInRange
      ⟨hp, hp', hq, hq', hindex, Nat.min_le_left _ _, fun hfree => by simp [hmode] at hfree⟩
      (show 20 ≤ s.timer.counter by omega) hcounter hplan

/-- In OPEN and CLOSED the counter has passed the guard. -/
theorem TimerInRange.guard_le (h : TimerInRange x) (hphase : x.phase = .openPhase ∨ x.phase = .closed) :
    20 ≤ x.counter := by
  obtain ⟨hentry, _, _, _, _, hq, _⟩ := h
  obtain hphase | hphase := hphase <;> simp only [Timer.entry, hphase, Config.guardTicks] at hentry <;> omega

theorem takeSyncEdge_timerInRange (h : TimerInRange s.timer) (hplan : PlanChecked s) :
    TimerInRange (takeSyncEdge s).timer := by
  obtain hdrop | ⟨hphase, e, hboundary⟩ := takeSyncEdge_boundary s
  · exact hdrop ▸ h
  · rw [hboundary]
    obtain ⟨hp, hp', hq, hq', hindex, _, _⟩ := h.ranged
    exact makeBoundary_timerInRange ⟨hp, hp', hq, hq', hindex, Nat.zero_le _, fun _ => rfl⟩ (h.guard_le hphase)
      h.2.2.1 hplan

/-- RESTART makes a boundary at 20 ticks or later, or leaves a request that the counter has yet to reach. -/
theorem restartTimer_timerInRange (h : TimerInRange s.timer) (hplan : PlanChecked s) :
    TimerInRange (restartTimer s).timer := by
  have hcounter := h.2.2.1
  cases hphase : s.timer.phase with
  | start =>
    obtain hbelow | hreached := Nat.lt_or_ge s.timer.counter 20
    · rw [restartTimer_request (.inr ⟨hphase, hbelow⟩)]
      obtain ⟨hentry, _, _, hrest⟩ := h
      obtain ⟨hp, hp', hq, hq', hdelta, hindex, hrun, hfree, _⟩ := hrest
      refine ⟨hentry, ?_, hcounter, hp, hp', hq, hq', hdelta, hindex, hrun, hfree, fun _ => .inl hphase⟩
      simp only [Timer.limit, hphase, Config.guardTicks]
      exact hbelow.le
    · rw [restartTimer_boundary (.inr (.inr ⟨hphase, hreached⟩))]
      exact makeBoundary_timerInRange h.ranged hreached hcounter hplan
  | guarding =>
    rw [restartTimer_request (.inl hphase)]
    obtain ⟨hentry, hlimit, _, hp, hp', hq, hq', hdelta, hindex, hrun, hfree, _⟩ := h
    simp only [Timer.limit, hphase] at hlimit
    refine ⟨hentry, ?_, hcounter, hp, hp', hq, hq', hdelta, hindex, hrun, hfree, fun _ => .inr hphase⟩
    simpa only [Timer.limit, hphase] using hlimit
  | openPhase =>
    rw [restartTimer_boundary (.inl hphase)]
    exact makeBoundary_timerInRange h.ranged (h.guard_le (.inl hphase)) hcounter hplan
  | closed =>
    rw [restartTimer_boundary (.inr (.inl hphase))]
    exact makeBoundary_timerInRange h.ranged (h.guard_le (.inr hphase)) hcounter hplan

end Ranges

/-! ### A tick takes every event that is left (R1) -/

section Settle

variable {x : Timer} {s : State}

/-- How many positions are left on this tick: a guard end may be followed by a publish point. -/
def Timer.positionsLeft (x : Timer) : Nat :=
  match x.due with
  | none => 0
  | some .guardEnd => 2
  | some _ => 1

/-- How many events are left on this tick. -/
def eventsLeft (s : State) : Nat := s.timer.positionsLeft + s.timer.syncEdge.toNat

/-- A timer in its ranges, or just stamped by a boundary, whatever plan that took. -/
def Timer.Steady (x : Timer) : Prop := TimerInRange x ∨ (x.phase = .guarding ∧ x.counter = 0)

theorem Timer.positionsLeft_of_due_none (h : x.due = none) : x.positionsLeft = 0 := by
  simp [Timer.positionsLeft, h]

theorem Timer.positionsLeft_pos {p : Position} (h : x.due = some p) : 0 < x.positionsLeft := by
  cases p <;> simp [Timer.positionsLeft, h]

theorem Timer.positionsLeft_le (x : Timer) : x.positionsLeft ≤ 2 := by
  unfold Timer.positionsLeft
  split <;> omega

/-- In OPEN at most the publish point is left. -/
theorem Timer.positionsLeft_of_open (h : x.phase = .openPhase) : x.positionsLeft ≤ 1 := by
  unfold Timer.positionsLeft
  split
  · exact Nat.zero_le _
  next hdue => simp [due_guardEnd_iff, h] at hdue
  · exact le_rfl

theorem makeBoundary_steady (s : State) :
    (makeBoundary s).timer.Steady ∧ eventsLeft (makeBoundary s) = s.timer.syncEdge.toNat := by
  have hdue := due_of_stamped (makeBoundary_timer_phase s) (makeBoundary_timer_counter s)
  exact ⟨.inr ⟨makeBoundary_timer_phase s, makeBoundary_timer_counter s⟩,
    by simp [eventsLeft, Timer.positionsLeft_of_due_none hdue]⟩

/-- Taking a position that is due leaves fewer events. -/
theorem takePosition_eventsLeft {p : Position} (h : s.timer.Steady) (hdue : s.timer.due = some p) :
    (takePosition p s).timer.Steady ∧ eventsLeft (takePosition p s) < eventsLeft s := by
  have hranged : TimerInRange s.timer := h.resolve_right fun ⟨hphase, hcounter⟩ => by
    simp [due_of_stamped hphase hcounter] at hdue
  have hleft := Timer.positionsLeft_pos hdue
  obtain ⟨rfl, htake⟩ | ⟨rfl, htake⟩ | ⟨n, e, htake⟩ := takePosition_cases p s <;> rw [htake]
  · have hopen : (takeGuardEnd s).timer.positionsLeft ≤ 1 := Timer.positionsLeft_of_open rfl
    have htwo : s.timer.positionsLeft = 2 := by simp [Timer.positionsLeft, hdue]
    have hedge : (takeGuardEnd s).timer.syncEdge = s.timer.syncEdge := rfl
    refine ⟨.inl (takeGuardEnd_timerInRange hranged hdue), ?_⟩
    rw [eventsLeft, eventsLeft, hedge]
    omega
  · obtain ⟨hafter, hnone⟩ := takePublishPoint_timerInRange hranged hdue
    have hedge : (takePublishPoint s).timer.syncEdge = s.timer.syncEdge := rfl
    refine ⟨.inl hafter, ?_⟩
    rw [eventsLeft, eventsLeft, hedge, Timer.positionsLeft_of_due_none hnone]
    omega
  · obtain ⟨hsteady, hevents⟩ := makeBoundary_steady { s with timer := { s.timer with runCount := n }, events := e }
    refine ⟨hsteady, ?_⟩
    rw [hevents, eventsLeft]
    show s.timer.syncEdge.toNat < s.timer.positionsLeft + s.timer.syncEdge.toNat
    omega

theorem dropEdge_eventsLeft (s : State) : eventsLeft (dropEdge s) = s.timer.positionsLeft := rfl

/-- Taking the edge leaves fewer events. -/
theorem takeSyncEdge_eventsLeft (h : s.timer.Steady) (hedge : s.timer.syncEdge = true) :
    (takeSyncEdge s).timer.Steady ∧ eventsLeft (takeSyncEdge s) < eventsLeft s := by
  have hone : eventsLeft s = s.timer.positionsLeft + 1 := by simp [eventsLeft, hedge]
  obtain hdrop | ⟨_, e, hboundary⟩ := takeSyncEdge_boundary s
  · rw [hdrop, dropEdge_eventsLeft]
    exact ⟨h, by omega⟩
  · rw [hboundary]
    obtain ⟨hsteady, hevents⟩ := makeBoundary_steady
      { s with timer := { s.timer with syncEdge := false, runCount := 0 }, events := e }
    refine ⟨hsteady, ?_⟩
    rw [hevents, hone]
    exact Nat.succ_pos _

theorem eventsLeft_eq_zero_iff : eventsLeft s = 0 ↔ s.timer.due = none ∧ s.timer.syncEdge = false := by
  constructor
  · intro h
    obtain ⟨hpositions, hedge⟩ := Nat.add_eq_zero_iff.mp h
    refine ⟨?_, by simpa using hedge⟩
    cases hdue : s.timer.due with
    | none => rfl
    | some p => exact absurd hpositions (Timer.positionsLeft_pos hdue).ne'
  · rintro ⟨hdue, hedge⟩
    simp [eventsLeft, Timer.positionsLeft_of_due_none hdue, hedge]

theorem settleOne_of_settled (h : eventsLeft s = 0) : settleOne s = s := by
  obtain ⟨hdue, hedge⟩ := eventsLeft_eq_zero_iff.mp h
  simp [settleOne, hdue, hedge]

theorem settleOne_eventsLeft (h : s.timer.Steady) :
    (settleOne s).timer.Steady ∧ eventsLeft (settleOne s) ≤ eventsLeft s - 1 := by
  obtain ⟨hdue, hedge, hs⟩ | ⟨p, n, hdue, hs⟩ | ⟨n, hedge, hs⟩ := settleOne_cases s <;> rw [hs]
  · exact ⟨h, by rw [eventsLeft_eq_zero_iff.mpr ⟨hdue, hedge⟩]⟩
  · obtain ⟨hsteady, hless⟩ := takePosition_eventsLeft (s := { s with tieDraws := n }) h hdue
    exact ⟨hsteady, Nat.le_sub_one_of_lt hless⟩
  · obtain ⟨hsteady, hless⟩ := takeSyncEdge_eventsLeft (s := { s with tieDraws := n }) h hedge
    exact ⟨hsteady, Nat.le_sub_one_of_lt hless⟩

/-- Three settlings take a guard end, a publish point and an edge. -/
theorem eventsLeft_settleTick (h : s.timer.Steady) : eventsLeft (settleTick s) = 0 := by
  obtain ⟨hfirst, hless⟩ := settleOne_eventsLeft h
  obtain ⟨hsecond, hless'⟩ := settleOne_eventsLeft hfirst
  obtain ⟨_, hless''⟩ := settleOne_eventsLeft hsecond
  have hthree : eventsLeft s ≤ 3 := by
    have := s.timer.positionsLeft_le
    have := s.timer.syncEdge.toNat_le
    unfold eventsLeft
    omega
  unfold settleTick
  omega

/-- A tick does what it does once one of its events has been taken. -/
theorem settleTick_settleOne (h : s.timer.Steady) : settleTick (settleOne s) = settleTick s := by
  show settleOne (settleTick s) = settleTick s
  exact settleOne_of_settled (eventsLeft_settleTick h)

/-- With no event left, a tick has nothing to take. -/
theorem settleTick_of_settled (h : eventsLeft s = 0) : settleTick s = s := by
  simp [settleTick, settleOne_of_settled h]

end Settle

/-! ### The timer stays in its ranges -/

section TimerInvariant

variable {c : Instr} {s t : State}

/-- A timer with no position due has yet to reach the end of its phase. -/
theorem Timer.counter_lt_limit {x : Timer} (hdue : x.due = none) : x.counter < x.limit := by
  cases hphase : x.phase with
  | start => cases hreq : x.restartReq <;> simpa [Timer.due, Timer.limit, hphase, hreq] using hdue
  | guarding => cases hreq : x.restartReq <;> simpa [Timer.due, Timer.limit, hphase, hreq] using hdue
  | openPhase => simpa [Timer.due, Timer.limit, hphase] using hdue
  | closed => cases hmode : x.mode <;> simpa [Timer.due, Timer.limit, hphase, hmode] using hdue

/-- No phase lasts beyond 625 ticks. -/
theorem TimerInRange.limit_le {x : Timer} (h : TimerInRange x) : x.limit ≤ 625 := by
  obtain ⟨hp, hp', hq, hq', _⟩ := h.ranged
  simp only [Timer.limit, Config.guardTicks, Config.startTicks, syncDeadline]
  repeat' split
  all_goals omega

/-- A tick moves a timer with no position due to the next counter, within its phase. -/
theorem advance_timerInRange {x : Timer} (h : TimerInRange x) (hdue : x.due = none) (sync : Bool) :
    TimerInRange (x.advance sync) := by
  have hlast := h.limit_le
  have hnext : x.counter + 1 ≤ x.limit := Timer.counter_lt_limit hdue
  obtain ⟨hentry, _, _, hp, hp', hq, hq', hdelta, hindex, hrun, hfree, hreq⟩ := h
  exact ⟨hentry.trans (Nat.le_succ _), hnext, hnext.trans hlast, hp, hp', hq, hq', hdelta, hindex, hrun, hfree, hreq⟩

theorem Change.timerInRange (h : Change c s t) (hs : TimerInRange s.timer ∧ PlanChecked s) : TimerInRange t.timer := by
  obtain ⟨htimer, hplan⟩ := hs
  cases h with
  | stay | release | holdSet | staged | seed | mask | clearErrors | commit | withdraw | ack => exact htimer
  | position x hdue => exact takePosition_timerInRange htimer hplan hdue
  | edge _ => exact takeSyncEdge_timerInRange htimer hplan
  | demand index d => rwa [storeDemand_timer]
  | report index d => rwa [storeReport_timer]
  | restart => exact restartTimer_timerInRange (s := restartBlocks s) htimer hplan

theorem timerInRange_reset : TimerInRange State.reset.timer := by
  refine ⟨?_, ?_, ?_, ?_, ?_, ?_, ?_, ?_, ?_, ?_, ?_, ?_⟩ <;> decide

/-- The timer with the plan whose section C it takes at a boundary. -/
theorem timerInRange_kept (c : Instr) : Kept c fun s => TimerInRange s.timer ∧ PlanChecked s where
  draws _ _ h := h
  port _ _ _ _ h := h
  tick s sync hs h := by
    obtain ⟨hdue, _⟩ := eventsLeft_eq_zero_iff.mp (eventsLeft_settleTick (.inl hs.1))
    exact ⟨advance_timerInRange h.1 hdue sync, h.2⟩
  change _ _ hchange h := ⟨hchange.timerInRange h, planChecked_invariant.change hchange h.2⟩
  reset _ _ _ := ⟨timerInRange_reset, planChecked_reset⟩

end TimerInvariant

/-- Settles O54: boundaries are made between 20 and 625 ticks, and the counter moves on only where no position is
due. -/
theorem timerStaysInRange : Obligations.TimerStaysInRange :=
  fun _ _ htimer hplan hstep => (Kept.step timerInRange_kept (fun _ _ h => h) ⟨htimer, hplan⟩ hstep).1

end Sys2Proof.Machine
end

section
/-! PROOFS. The pending and the published set through the phases (R9, R17, R87, R102): what each command publishes. -/

namespace Sys2Proof.Machine

open Sys2Proof

/-! ### A computation is in flight in GUARD and OPEN (R2, R17) -/

section Pending

variable {s t : State} {c : Instr}

@[simp] theorem publishSet_pendingSet (s : State) (index : Nat) : (publishSet index s).app.pendingSet = none := by
  cases hpending : s.app.pendingSet with
  | none => simp [publishSet, hpending]
  | some g => rw [publishSet_app index hpending]

theorem pendingMatches_of_guarding (hphase : s.timer.phase = .guarding)
    (h : s.app.pendingSet.isSome = !s.timer.restartReq) : PendingMatchesPhase s := by
  simpa only [PendingMatchesPhase, hphase] using h

theorem pendingMatches_of_closed (hphase : s.timer.phase = .closed) (h : s.app.pendingSet = none) :
    PendingMatchesPhase s := by
  simpa only [PendingMatchesPhase, hphase] using h

/-- Whatever the state before, a boundary begins a computation in GUARD. -/
theorem pendingMatches_makeBoundary (s : State) : PendingMatchesPhase (makeBoundary s) :=
  pendingMatches_of_guarding (makeBoundary_timer_phase s) (by
    rw [makeBoundary_pendingSet_isSome, makeBoundary_timer_restartReq]; rfl)

theorem pendingMatches_takeGuardEnd (h : PendingMatchesPhase s) (hdue : s.timer.due = some .guardEnd) :
    PendingMatchesPhase (takeGuardEnd s) := by
  obtain ⟨hphase, hreq, _⟩ := due_guardEnd_iff.mp hdue
  simp only [PendingMatchesPhase, hphase, hreq] at h
  exact ⟨h, hreq⟩

theorem pendingMatches_takePublishPoint (s : State) : PendingMatchesPhase (takePublishPoint s) :=
  pendingMatches_of_closed (by rw [takePublishPoint_frame]) (by
    rw [takePublishPoint_frame]; exact publishSet_pendingSet s _)

theorem pendingMatches_takePosition {x : Position} (h : PendingMatchesPhase s) (hdue : s.timer.due = some x) :
    PendingMatchesPhase (takePosition x s) := by
  obtain ⟨rfl, htake⟩ | ⟨rfl, htake⟩ | ⟨n, e, htake⟩ := takePosition_cases x s <;> rw [htake]
  · exact pendingMatches_takeGuardEnd h hdue
  · exact pendingMatches_takePublishPoint s
  · exact pendingMatches_makeBoundary _

theorem pendingMatches_takeSyncEdge (h : PendingMatchesPhase s) : PendingMatchesPhase (takeSyncEdge s) := by
  obtain hdrop | ⟨_, e, hboundary⟩ := takeSyncEdge_boundary s
  · exact hdrop ▸ h
  · exact hboundary ▸ pendingMatches_makeBoundary _

/-- RESTART discards the computation, and a boundary or the request that it leaves agrees. -/
theorem pendingMatches_restart (s : State) : PendingMatchesPhase (restartTimer (restartBlocks s)) := by
  cases hphase : (restartBlocks s).timer.phase with
  | start =>
    obtain hbelow | hreached := Nat.lt_or_ge (restartBlocks s).timer.counter 20
    · rw [restartTimer_request (.inr ⟨hphase, hbelow⟩)]
      simp only [PendingMatchesPhase, hphase]
      rfl
    · rw [restartTimer_boundary (.inr (.inr ⟨hphase, hreached⟩))]
      exact pendingMatches_makeBoundary _
  | guarding =>
    rw [restartTimer_request (.inl hphase)]
    exact pendingMatches_of_guarding hphase rfl
  | openPhase =>
    rw [restartTimer_boundary (.inl hphase)]
    exact pendingMatches_makeBoundary _
  | closed =>
    rw [restartTimer_boundary (.inr (.inl hphase))]
    exact pendingMatches_makeBoundary _

theorem PendingMatchesPhase.congr (htimer : t.timer = s.timer) (happ : t.app = s.app) (h : PendingMatchesPhase s) :
    PendingMatchesPhase t := by
  rwa [PendingMatchesPhase, htimer, happ]

theorem Change.pendingMatches (h : Change c s t) (hs : PendingMatchesPhase s) : PendingMatchesPhase t := by
  cases h with
  | stay | release | holdSet | staged | seed | mask | clearErrors | commit | withdraw | ack => exact hs
  | position x hdue => exact pendingMatches_takePosition hs hdue
  | edge _ => exact pendingMatches_takeSyncEdge hs
  | demand index d => exact hs.congr (storeDemand_timer ..) (storeDemand_app ..)
  | report index d => exact hs.congr (storeReport_timer ..) (storeReport_app ..)
  | restart => exact pendingMatches_restart s

theorem pendingMatches_kept (c : Instr) : Kept c PendingMatchesPhase where
  draws _ _ h := h
  port _ _ _ _ h := h
  tick _ _ _ h := h
  change _ _ hchange h := hchange.pendingMatches h
  reset _ _ _ := rfl

end Pending

/-! ### The published set carries the timer's index (R9, R102) -/

section Index

variable {s t : State} {c : Instr}

theorem indexMatches_makeBoundary (h : IndexMatches s) : IndexMatches (makeBoundary s) := by
  rwa [IndexMatches, makeBoundary_published, makeBoundary_timer_index]

/-- In OPEN a set is pending, and the publish point stamps it with the index to which the timer advances. -/
theorem indexMatches_takePublishPoint (h : PendingMatchesPhase s) (hdue : s.timer.due = some .publishPoint) :
    IndexMatches (takePublishPoint s) := by
  obtain ⟨hphase, _⟩ := due_publishPoint_iff.mp hdue
  simp only [PendingMatchesPhase, hphase] at h
  obtain ⟨g, hg⟩ := Option.isSome_iff_exists.mp h.1
  rw [takePublishPoint_frame, publishSet_app _ hg]
  rfl

theorem indexMatches_takePosition {x : Position} (h : IndexMatches s) (hpending : PendingMatchesPhase s)
    (hdue : s.timer.due = some x) : IndexMatches (takePosition x s) := by
  obtain ⟨rfl, htake⟩ | ⟨rfl, htake⟩ | ⟨n, e, htake⟩ := takePosition_cases x s <;> rw [htake]
  · exact h
  · exact indexMatches_takePublishPoint hpending hdue
  · exact indexMatches_makeBoundary h

theorem indexMatches_takeSyncEdge (h : IndexMatches s) : IndexMatches (takeSyncEdge s) := by
  obtain hdrop | ⟨_, e, hboundary⟩ := takeSyncEdge_boundary s
  · exact hdrop ▸ h
  · exact hboundary ▸ indexMatches_makeBoundary h

theorem indexMatches_restart (h : IndexMatches s) : IndexMatches (restartTimer (restartBlocks s)) := by
  have hblocks : IndexMatches (restartBlocks s) := h
  obtain hboundary | hrequest := restartTimer_cases (restartBlocks s)
  · exact hboundary ▸ indexMatches_makeBoundary hblocks
  · exact hrequest ▸ hblocks

theorem IndexMatches.congr (htimer : t.timer = s.timer) (happ : t.app = s.app) (h : IndexMatches s) :
    IndexMatches t := by
  rwa [IndexMatches, htimer, happ]

theorem Change.indexMatches (h : Change c s t) (hpending : PendingMatchesPhase s) (hs : IndexMatches s) :
    IndexMatches t := by
  cases h with
  | stay | release | holdSet | staged | seed | mask | clearErrors | commit | withdraw | ack => exact hs
  | position x hdue => exact indexMatches_takePosition hs hpending hdue
  | edge _ => exact indexMatches_takeSyncEdge hs
  | demand index d => exact hs.congr (storeDemand_timer ..) (storeDemand_app ..)
  | report index d => exact hs.congr (storeReport_timer ..) (storeReport_app ..)
  | restart => exact indexMatches_restart hs

theorem indexMatches_kept (c : Instr) : Kept c fun s => PendingMatchesPhase s ∧ IndexMatches s where
  draws _ _ h := h
  port _ _ _ _ h := h
  tick _ _ _ h := h
  change _ _ hchange h := ⟨hchange.pendingMatches h.1, hchange.indexMatches h.1 h.2⟩
  reset _ _ _ := ⟨rfl, rfl⟩

end Index

/-- Settles O55: a boundary begins a computation, and the publish point and RESTART end it. -/
theorem pendingSetMatchesThePhase : Obligations.PendingSetMatchesThePhase :=
  ⟨fun _ _ hs hstep => Kept.step pendingMatches_kept (fun _ _ h => h) hs hstep,
    fun _ _ hs hindex hstep => (Kept.step indexMatches_kept (fun _ _ h => h) ⟨hs, hindex⟩ hstep).2⟩

/-! ### A command publishes at most once -/

section PublishedOnce

variable {s t u : State} {c : Instr}

/-- What a command can make of the published set and the period index: nothing, the publish point, or the zero set of
RESTART. -/
inductive PublishedOnce (s t : State) : Prop
  | kept (hset : t.app.published = s.app.published) (hindex : t.timer.index = s.timer.index)
  | published (hset : t.app.published = (publishSet (nextIndex s.timer.index) s).app.published)
      (hindex : t.timer.index = nextIndex s.timer.index)
  | restarted (hset : t.app.published = GrantSet.zero s.app.engine s.app.published.periodIndex)
      (hindex : t.timer.index = s.timer.index)

/-- What changes neither the published set nor the index adds nothing. -/
theorem PublishedOnce.trans_kept (h : PublishedOnce s t) (hset : u.app.published = t.app.published)
    (hindex : u.timer.index = t.timer.index) : PublishedOnce s u := by
  cases h with
  | kept hs hi => exact .kept (hset.trans hs) (hindex.trans hi)
  | published hs hi => exact .published (hset.trans hs) (hindex.trans hi)
  | restarted hs hi => exact .restarted (hset.trans hs) (hindex.trans hi)

/-- How far a tick has come in taking its events: the blocks are as they were, or the timer stands where no publish
point follows. -/
inductive TickProgress (s t : State) : Prop
  | untouched (happ : t.app = s.app) (hplan : t.plan = s.plan) (hindex : t.timer.index = s.timer.index)
  | closed (hphase : t.timer.phase = .closed) (h : PublishedOnce s t)
  | stamped (hphase : t.timer.phase = .guarding) (hcounter : t.timer.counter = 0) (h : PublishedOnce s t)

theorem TickProgress.publishedOnce (h : TickProgress s t) : PublishedOnce s t := by
  cases h with
  | untouched happ _ hindex => exact .kept (congrArg _ happ) hindex
  | closed _ h => exact h
  | stamped _ _ h => exact h

/-- A publish point in a state that the tick has left untouched publishes what it would have published before. -/
theorem published_of_untouched (index : Nat) (happ : t.app = s.app) :
    (publishSet index t).app.published = (publishSet index s).app.published := by
  cases hpending : s.app.pendingSet with
  | none => simp [publishSet, hpending, happ]
  | some g =>
    have hpending' : t.app.pendingSet = some g := happ ▸ hpending
    rw [publishSet_app _ hpending, publishSet_app _ hpending']

theorem TickProgress.boundary (h : TickProgress s t) {timer : Timer} {events : PerPort EventUnit}
    (hindex : timer.index = t.timer.index) :
    TickProgress s (makeBoundary { t with timer := timer, events := events }) :=
  .stamped (makeBoundary_timer_phase _) (makeBoundary_timer_counter _)
    (h.publishedOnce.trans_kept (makeBoundary_published _) ((makeBoundary_timer_index _).trans hindex))

theorem TickProgress.takePosition {x : Position} (h : TickProgress s t) (hdue : t.timer.due = some x) :
    TickProgress s (takePosition x t) := by
  obtain ⟨rfl, htake⟩ | ⟨rfl, htake⟩ | ⟨n, e, htake⟩ := takePosition_cases x t <;> rw [htake]
  · obtain ⟨hphase, _, hreached⟩ := due_guardEnd_iff.mp hdue
    cases h with
    | untouched happ hplan hindex => exact .untouched happ hplan hindex
    | closed hclosed _ => simp [hphase] at hclosed
    | stamped _ hcounter _ => simp [hcounter, Config.guardTicks] at hreached
  · obtain ⟨hphase, _⟩ := due_publishPoint_iff.mp hdue
    cases h with
    | untouched happ _ hindex =>
      rw [takePublishPoint_frame]
      exact .closed rfl (.published (by rw [← hindex]; exact published_of_untouched _ happ) (by rw [← hindex]; rfl))
    | closed hclosed _ => simp [hphase] at hclosed
    | stamped hguard _ _ => simp [hphase] at hguard
  · exact h.boundary rfl

theorem TickProgress.dropEdge (h : TickProgress s t) : TickProgress s (dropEdge t) := by
  cases h with
  | untouched happ hplan hindex => exact .untouched happ hplan hindex
  | closed hphase h => exact .closed hphase (h.trans_kept rfl rfl)
  | stamped hphase hcounter h => exact .stamped hphase hcounter (h.trans_kept rfl rfl)

theorem TickProgress.takeSyncEdge (h : TickProgress s t) : TickProgress s (takeSyncEdge t) := by
  obtain hdrop | ⟨_, e, hboundary⟩ := takeSyncEdge_boundary t
  · exact hdrop ▸ h.dropEdge
  · exact hboundary ▸ h.boundary rfl

theorem TickProgress.draws (h : TickProgress s t) (n : Nat) : TickProgress s { t with tieDraws := n } := by
  cases h with
  | untouched happ hplan hindex => exact .untouched happ hplan hindex
  | closed hphase h => exact .closed hphase (h.trans_kept rfl rfl)
  | stamped hphase hcounter h => exact .stamped hphase hcounter (h.trans_kept rfl rfl)

theorem TickProgress.settleOne (h : TickProgress s t) : TickProgress s (settleOne t) := by
  obtain ⟨_, _, hs⟩ | ⟨x, n, hdue, hs⟩ | ⟨n, _, hs⟩ := settleOne_cases t <;> rw [hs]
  · exact h
  · exact (h.draws n).takePosition hdue
  · exact (h.draws n).takeSyncEdge

theorem settleTick_progress (s : State) : TickProgress s (settleTick s) :=
  settleTick_keeps (P := TickProgress s) (fun _ h => h.settleOne) (.untouched rfl rfl rfl)

theorem Change.publishedOnce (h : Change c s t) : PublishedOnce s t := by
  have hstart : TickProgress s s := .untouched rfl rfl rfl
  cases h with
  | stay | release | holdSet | staged | seed | mask | clearErrors | commit | withdraw | ack => exact .kept rfl rfl
  | position x hdue => exact (hstart.takePosition hdue).publishedOnce
  | edge _ => exact hstart.takeSyncEdge.publishedOnce
  | demand index d => exact .kept (by rw [storeDemand_app]) (by rw [storeDemand_timer])
  | report index d => exact .kept (by rw [storeReport_app]) (by rw [storeReport_timer])
  | restart =>
    have hblocks : PublishedOnce s (restartBlocks s) := .restarted rfl rfl
    obtain hboundary | hrequest := restartTimer_cases (restartBlocks s)
    · rw [hboundary]
      exact hblocks.trans_kept (makeBoundary_published _) (makeBoundary_timer_index _)
    · rw [hrequest]
      exact hblocks.trans_kept rfl rfl

/-- Every command but a device reset publishes at most once. -/
theorem exec_publishedOnce (hc : c ≠ .deviceReset) (h : exec c s = .next t) : PublishedOnce s t := by
  obtain hreset | sync | hchange | ⟨hchange, p, _⟩ := exec_effect h
  case reset => exact absurd hreset hc
  case tick => exact (settleTick_progress s).publishedOnce.trans_kept rfl rfl
  case change => exact hchange.publishedOnce
  case port => exact hchange.publishedOnce.trans_kept rfl rfl

end PublishedOnce

/-! ### The ramp (R87) -/

section Ramp

variable {s t : State}

/-- A grant is within the demand, the capacity and the ceiling, and at most a step above the grant before (R84, R87). -/
theorem enduranceGrant_le (demand capacity ceiling prev step : Nat) :
    (enduranceGrant demand capacity ceiling prev step).grant ≤ demand ∧
    (enduranceGrant demand capacity ceiling prev step).grant ≤ capacity ∧
    (enduranceGrant demand capacity ceiling prev step).grant ≤ ceiling ∧
    (enduranceGrant demand capacity ceiling prev step).grant ≤ prev + step := by
  simp only [enduranceGrant]
  omega

/-- In either order each grant is within its capacity and a step of the one before. -/
theorem endurancePair_le (order d eCap : Nat) (e r : BrakeInput) :
    (endurancePair order d eCap e r).e.grant ≤ e.capacity ∧
    (endurancePair order d eCap e r).r.grant ≤ r.capacity ∧
    (endurancePair order d eCap e r).e.grant ≤ e.prev + e.step ∧
    (endurancePair order d eCap e r).r.grant ≤ r.prev + r.step := by
  unfold endurancePair
  split
  · obtain ⟨_, hcap, _, hstep⟩ := enduranceGrant_le d e.capacity eCap e.prev e.step
    obtain ⟨_, hcap', _, hstep'⟩ := enduranceGrant_le
      (d - (enduranceGrant d e.capacity eCap e.prev e.step).grant) r.capacity
      (eCap - (enduranceGrant d e.capacity eCap e.prev e.step).grant) r.prev r.step
    exact ⟨hcap, hcap', hstep, hstep'⟩
  · obtain ⟨_, hcap, _, hstep⟩ := enduranceGrant_le d r.capacity eCap r.prev r.step
    obtain ⟨_, hcap', _, hstep'⟩ := enduranceGrant_le
      (d - (enduranceGrant d r.capacity eCap r.prev r.step).grant) e.capacity
      (eCap - (enduranceGrant d r.capacity eCap r.prev r.step).grant) e.prev e.step
    exact ⟨hcap', hcap, hstep', hstep⟩

/-- A computed set's endurance grants rise by at most a ramp step each. -/
theorem computeSet_ramp (live : PlanCopy) (s : State) :
    (computeSet live s).exhaust.grantN ≤ s.app.prevE + s.plan.stepE.getD 0 ∧
    (computeSet live s).retarder.grantN ≤ s.app.prevR + s.plan.stepT.getD 0 := by
  obtain ⟨_, _, he, hr⟩ := endurancePair_le live.c.order
    (resolve live.c (latchedMass s.latched live.c.nominalMass) s.demand).d
    (driveCeiling live.c (latchedMass s.latched live.c.nominalMass))
    (brakeInput (exhaustResult live s.latched s.cap) s.app.prevE s.plan.stepE)
    (brakeInput (retarderResult live s.latched s.cap) s.app.prevR s.plan.stepT)
  exact ⟨he, hr⟩

/-- The two ramp steps, of which a pending set looks. -/
theorem RampBounded.congr (happ : t.app = s.app) (hstepE : t.plan.stepE = s.plan.stepE)
    (hstepT : t.plan.stepT = s.plan.stepT) (h : RampBounded s) : RampBounded t := by
  rwa [RampBounded, happ, hstepE, hstepT]

/-- A boundary's set is computed from the previous grants and the steps that the boundary copies. -/
theorem rampBounded_makeBoundary (h : RampBounded s) : RampBounded (makeBoundary s) := by
  obtain ⟨hE, hR, _⟩ := h
  refine ⟨by simpa using hE, by simpa using hR, fun g hg => ?_⟩
  rw [makeBoundary_prevE, makeBoundary_prevR, makeBoundary_plan]
  cases hlive : s.plan.copied.allLive with
  | none =>
    rw [(makeBoundary_unplanned hlive).1] at hg
    cases hg
    exact ⟨Nat.zero_le _, Nat.zero_le _⟩
  | some live =>
    rw [(makeBoundary_live hlive).1] at hg
    cases hg
    simpa using computeSet_ramp live (evaluatedState live s)

/-- Publishing makes the pending set's grants the previous ones. -/
theorem rampBounded_publishSet (index : Nat) (h : RampBounded s) : RampBounded (publishSet index s) := by
  cases hpending : s.app.pendingSet with
  | none => simpa [publishSet, hpending] using h
  | some g =>
    rw [publishSet_frame, RampBounded, publishSet_app index hpending]
    exact ⟨rfl, rfl, fun g' hg' => nomatch hg'⟩

@[simp] theorem PlanStore.writePart_stepE (x : PlanStore) (index : Nat) (d : List Byte) :
    (x.writePart index d).stepE = x.stepE := by
  unfold PlanStore.writePart
  split <;> rfl

@[simp] theorem PlanStore.writePart_stepT (x : PlanStore) (index : Nat) (d : List Byte) :
    (x.writePart index d).stepT = x.stepT := by
  unfold PlanStore.writePart
  split <;> rfl

@[simp] theorem PlanStore.setPending_stepE (x : PlanStore) (p : Port) (v : Bool) :
    (x.setPending p v).stepE = x.stepE := by
  cases p <;> rfl

@[simp] theorem PlanStore.setPending_stepT (x : PlanStore) (p : Port) (v : Bool) :
    (x.setPending p v).stepT = x.stepT := by
  cases p <;> rfl

theorem rampBounded_invariant : BlockInvariant RampBounded where
  frame _ _ _ _ _ _ _ h := h
  boundary _ := rampBounded_makeBoundary
  publish _ index := rampBounded_publishSet index
  demand s index d h := h.congr (storeDemand_app ..) (by rw [storeDemand_plan]) (by rw [storeDemand_plan])
  holdSet _ _ h := h
  report s index d h := h.congr (storeReport_app ..) (by rw [storeReport_plan]) (by rw [storeReport_plan])
  staged s index d _ h := RampBounded.congr (s := s) rfl (PlanStore.writePart_stepE ..) (PlanStore.writePart_stepT ..) h
  seed _ _ h := h
  commit s p _ h := RampBounded.congr (s := s) rfl (PlanStore.setPending_stepE ..) (PlanStore.setPending_stepT ..) h
  withdraw s p h := RampBounded.congr (s := s) rfl (PlanStore.setPending_stepE ..) (PlanStore.setPending_stepT ..) h
  restart _ _ := ⟨rfl, rfl, fun _ h => nomatch h⟩

theorem rampBounded_reset : RampBounded State.reset := ⟨rfl, rfl, fun _ h => nomatch h⟩

/-- What is published at a publish point is at most a step above what was published before. -/
theorem publishSet_ramp (index : Nat) (h : RampBounded s) :
    (publishSet index s).app.published.exhaust.grantN ≤ s.app.published.exhaust.grantN + s.plan.stepE.getD 0 ∧
    (publishSet index s).app.published.retarder.grantN ≤ s.app.published.retarder.grantN + s.plan.stepT.getD 0 := by
  obtain ⟨hE, hR, hbound⟩ := h
  cases hpending : s.app.pendingSet with
  | none => simp [publishSet, hpending]
  | some g =>
    obtain ⟨he, hr⟩ := hbound g hpending
    rw [publishSet_app index hpending, ← hE, ← hR]
    exact ⟨he, hr⟩

theorem PublishedOnce.ramp (h : PublishedOnce s t) (hs : RampBounded s) :
    t.app.published.exhaust.grantN ≤ s.app.published.exhaust.grantN + s.plan.stepE.getD 0 ∧
    t.app.published.retarder.grantN ≤ s.app.published.retarder.grantN + s.plan.stepT.getD 0 := by
  cases h with
  | kept hset _ => exact hset ▸ ⟨Nat.le_add_right .., Nat.le_add_right ..⟩
  | published hset _ => exact hset ▸ publishSet_ramp _ hs
  | restarted hset _ => exact hset ▸ ⟨Nat.zero_le _, Nat.zero_le _⟩

/-- A command's raise of a published endurance grant; a device reset grants nothing. -/
theorem exec_ramp {c : Instr} (hs : RampBounded s) (h : exec c s = .next t) :
    t.app.published.exhaust.grantN ≤ s.app.published.exhaust.grantN + s.plan.stepE.getD 0 ∧
    t.app.published.retarder.grantN ≤ s.app.published.retarder.grantN + s.plan.stepT.getD 0 := by
  by_cases hc : c = .deviceReset
  · subst hc
    cases h
    exact ⟨Nat.zero_le _, Nat.zero_le _⟩
  · exact (exec_publishedOnce hc h).ramp hs

end Ramp

/-- Settles O58: a computed set exceeds the previous grants by a step at most, and a command publishes at most once. -/
theorem enduranceGrantsRiseByAStep : Obligations.EnduranceGrantsRiseByAStep := by
  refine ⟨fun s t hs hstep => rampBounded_invariant.step (fun _ _ => rampBounded_reset) hs hstep,
    fun s t hs hstep => ?_⟩
  cases hqueue : s.pending with
  | nil =>
    simp only [step, hqueue] at hstep
    cases hstep
    exact ⟨Nat.le_add_right .., Nat.le_add_right ..⟩
  | cons c rest =>
    simp only [step, hqueue] at hstep
    exact exec_ramp (s := { s with pending := rest }) hs hstep

end Sys2Proof.Machine
end

section
/-! PROOFS. The queue, device reset, the timer's commands (chapter 1), and what only a device reset takes back. -/

namespace Sys2Proof.Machine

open Sys2Proof

/-! ### The queue -/

/-- Settles O1. -/
theorem stepRunsFrontCommand : Obligations.StepRunsFrontCommand :=
  ⟨fun s c rest h => by rw [step, h], fun s h => by rw [step, h]⟩

section Queue

variable {c : Instr} {s t : State}

theorem takePosition_pending (x : Position) (s : State) : (takePosition x s).pending = s.pending := by
  obtain ⟨_, h⟩ | ⟨_, h⟩ | ⟨n, e, h⟩ := takePosition_cases x s <;> rw [h]
  · rfl
  · rw [takePublishPoint_frame]
  · exact makeBoundary_pending _

theorem takeSyncEdge_pending (s : State) : (takeSyncEdge s).pending = s.pending := by
  obtain h | ⟨_, e, h⟩ := takeSyncEdge_boundary s <;> rw [h]
  · rfl
  · exact makeBoundary_pending _

theorem restart_pending (s : State) : (restartTimer (restartBlocks s)).pending = s.pending := by
  obtain h | h := restartTimer_cases (restartBlocks s) <;> rw [h]
  · exact makeBoundary_pending _
  · rfl

theorem Change.pending (h : Change c s t) : t.pending = s.pending := by
  cases h with
  | stay | release | holdSet | staged | seed | mask | clearErrors | commit | withdraw | ack => rfl
  | position x _ => exact takePosition_pending x s
  | edge _ => exact takeSyncEdge_pending s
  | demand index d => unfold storeDemand; split <;> rfl
  | report index d => unfold storeReport; split <;> simp
  | restart => exact restart_pending s

theorem pending_kept (c : Instr) (q : List Instr) : Kept c fun s => s.pending = q where
  draws _ _ h := h
  port _ _ _ _ h := h
  tick _ _ _ h := h
  change _ _ hchange h := hchange.pending.trans h
  reset _ _ h := h

/-- No command is refused or faults. -/
theorem exec_next (c : Instr) (s : State) : ∃ t, exec c s = .next t := by
  cases c <;> exact ⟨_, rfl⟩

end Queue

/-- Settles O2: each arm answers a next state, and no change touches the queue. -/
theorem everyCommandCompletes : Obligations.EveryCommandCompletes := by
  intro c s
  obtain ⟨t, ht⟩ := exec_next c s
  exact ⟨t, ht, (pending_kept c s.pending).exec ht rfl⟩

/-! ### Device reset (R6, R172, R177) -/

section Reset

variable (s : State) (sync : Bool)

theorem exec_deviceReset : exec .deviceReset s = .next (resetState s) := rfl

theorem exec_resetRelease : exec (.resetRelease sync) s = .next (if s.resetHeld then releaseReset sync s else s) := rfl

theorem resetState_port (p : Port) : (resetState s).port p = (s.port p).resetKeeping := by cases p <;> rfl

theorem resetState_mask (p : Port) : ((resetState s).events.get p).mask = 0xBFFF#16 := by cases p <;> rfl

theorem reset_wantsAttention (p : Port) : (State.reset.events.get p).wantsAttention = decide (p = .b) := by
  cases p <;> decide

/-- At reset release port B alone has something pending and enabled. -/
theorem reset_attention (p : Port) : (releaseReset sync (resetState s)).attention p = decide (p = .b) :=
  reset_wantsAttention p

end Reset

/-- Settles O3. -/
theorem resetSetsEveryBlockAndReleases : Obligations.ResetSetsEveryBlockAndReleases := by
  refine ⟨fun s => ⟨resetState s, exec_deviceReset s, rfl, ?timer, ?plan, ?reports, rfl, ?heat, rfl, ?app, ?ports,
    reset_count, resetState_mask s, rfl, rfl⟩, fun s sync hheld => ?released, fun s sync hheld => ?notHeld,
    fun s t u sync ht hu p => ?attention⟩
  case timer => exact ⟨rfl, rfl, rfl, rfl, rfl, rfl, rfl, rfl, rfl⟩
  case plan => exact ⟨rfl, rfl, rfl, rfl, rfl, rfl, rfl, rfl, rfl, rfl, rfl, rfl⟩
  case reports => exact ⟨rfl, rfl, rfl, rfl⟩
  case heat => exact ⟨fun i => by cases i <;> rfl, rfl⟩
  case app => exact ⟨rfl, rfl, rfl, rfl, rfl, rfl, rfl⟩
  case ports =>
    intro p
    rw [resetState_port]
    exact ⟨rfl, rfl, rfl, rfl, rfl, rfl, rfl, rfl⟩
  case released => rw [exec_resetRelease, hheld]; rfl
  case notHeld => rw [exec_resetRelease, hheld]; rfl
  case attention =>
    cases ht
    cases hu
    exact ⟨rfl, reset_attention s sync p⟩

/-! ### The positions (R2, R6, R7, R17) -/

theorem exec_positionCommand (x : Position) (s : State) : exec (positionCommand x) s = .next (takeIfDue x s) := by
  cases x <;> rfl

theorem exec_positionCommand_of_due {x : Position} {s : State} (hreset : s.resetHeld = false)
    (hdue : s.timer.due = some x) : exec (positionCommand x) s = .next (takePosition x s) := by
  rw [exec_positionCommand, takeIfDue_of_due hreset hdue]

/-- Settles O4: each position is the one that is due. -/
theorem timerTakesItsPositions : Obligations.TimerTakesItsPositions := by
  refine ⟨fun s hreset hphase hreq hcounter => ?_, fun s hreset hphase hmode hcounter => ?_,
    fun s hreset hphase hreq hcounter => ?_, fun s hreset hphase hreq hcounter => ?_⟩
  · exact ⟨exec_positionCommand_of_due hreset (due_startEnd_iff.mpr ⟨hphase, hreq, hcounter.ge⟩),
      (makeBoundary_timer_delta s).trans (congrArg some hcounter)⟩
  · exact ⟨exec_positionCommand_of_due hreset (due_freeBoundary_iff.mpr ⟨hphase, hmode, hcounter.ge⟩),
      (makeBoundary_timer_delta s).trans (congrArg some hcounter)⟩
  · exact ⟨exec_positionCommand_of_due hreset (due_restartBoundary_iff.mpr ⟨hphase, hreq, hcounter.ge⟩),
      (makeBoundary_timer_delta s).trans (congrArg some hcounter)⟩
  · exact exec_positionCommand_of_due hreset (due_guardEnd_iff.mpr ⟨hphase, hreq, hcounter.ge⟩)

/-! ### The SYNC edge (R10 to R13) -/

theorem exec_syncEdge_taken {s : State} (hreset : s.resetHeld = false) (hedge : s.timer.syncEdge = true) :
    exec .syncEdge s = .next (takeSyncEdge s) := by
  show Host.Outcome.next _ = _
  rw [hreset, hedge]
  rfl

/-- Settles O7. -/
theorem syncEdgeActsByPhase : Obligations.SyncEdgeActsByPhase := by
  intro s hreset hedge
  rw [exec_syncEdge_taken hreset hedge]
  refine ⟨fun hignored => ?ignored, fun hmode hphase => ?early, fun hmode hphase => ?normal⟩
  case ignored => rw [takeSyncEdge_of_ignored (hignored.imp_right .inr)]; rfl
  case early =>
    refine ⟨_, (s.post .syncEarly [.b]).events, congrArg _ (takeSyncEdge_of_open hmode hphase), rfl,
      fun p => State.post_mask _ _ s p, fun p k => ?_⟩
    simp only [State.post_count, List.mem_singleton]
    rfl
  case normal => rw [takeSyncEdge_of_closed hmode hphase]; rfl

/-! ### The tick (R1, R10, R12, R13) -/

section Tick

variable {s u : State} (sync : Bool)

theorem exec_tick (s : State) : exec (.tick sync) s = .next (if s.resetHeld then s else passTick sync s) := rfl

theorem takePosition_resetHeld (x : Position) (s : State) : (takePosition x s).resetHeld = s.resetHeld := by
  obtain ⟨_, h⟩ | ⟨_, h⟩ | ⟨n, e, h⟩ := takePosition_cases x s <;> rw [h]
  · rfl
  · rw [takePublishPoint_frame]
  · exact makeBoundary_resetHeld _

theorem takeSyncEdge_resetHeld (s : State) : (takeSyncEdge s).resetHeld = s.resetHeld := by
  obtain h | ⟨_, e, h⟩ := takeSyncEdge_boundary s <;> rw [h]
  · rfl
  · exact makeBoundary_resetHeld _

/-- An edge taken with no position due leaves nothing to take, whatever the timer's ranges. -/
theorem takeSyncEdge_settled (hdue : s.timer.due = none) : eventsLeft (takeSyncEdge s) = 0 := by
  obtain h | ⟨_, e, h⟩ := takeSyncEdge_boundary s <;> rw [h]
  · rw [dropEdge_eventsLeft, Timer.positionsLeft_of_due_none hdue]
  · exact (makeBoundary_steady _).2

/-- Two states that settle alike pass a tick alike. -/
theorem exec_tick_congr (hs : s.resetHeld = false) (hu : u.resetHeld = false) (h : settleTick s = settleTick u) :
    exec (.tick sync) s = exec (.tick sync) u := by
  rw [exec_tick, exec_tick, hs, hu]
  show Host.Outcome.next (passTick sync s) = .next (passTick sync u)
  rw [passTick, passTick, h]

theorem settleOne_resetHeld (s : State) : (settleOne s).resetHeld = s.resetHeld := by
  obtain ⟨_, _, h⟩ | ⟨x, n, _, h⟩ | ⟨n, _, h⟩ := settleOne_cases s <;> rw [h]
  · exact takePosition_resetHeld x _
  · exact takeSyncEdge_resetHeld _

/-- A tick does what it does after the event that it takes first. -/
theorem exec_tick_of_settleOne (hreset : s.resetHeld = false) (hsteady : s.timer.Steady) (h : settleOne s = u) :
    exec (.tick sync) s = exec (.tick sync) u :=
  exec_tick_congr sync hreset (h ▸ (settleOne_resetHeld s).trans hreset) (h ▸ (settleTick_settleOne hsteady).symm)

end Tick

/-- Settles O8: settling takes the events one by one, and once none is left it does nothing more. -/
theorem tickAdvancesTheCounter : Obligations.TickAdvancesTheCounter := by
  refine ⟨fun s sync hreset hdue hedge => ?plain, fun s sync hheld => ?held, fun s sync hreset hdue hedge => ?edge,
    fun s sync x hreset hrange hdue => ⟨fun hedge => ?position, fun hedge hmode => ?free, fun hedge hmode hfirst => ?edgeFirst,
      fun hedge hmode hfirst => ?positionFirst⟩⟩
  case plain =>
    rw [exec_tick, if_neg (hreset ▸ Bool.false_ne_true), passTick, settleTick_of_settled (eventsLeft_eq_zero_iff.mpr ⟨hdue, hedge⟩)]
    rfl
  case held => rw [exec_tick, hheld]; rfl
  case edge =>
    have hfirst : settleOne s = takeSyncEdge s := by rw [settleOne, hdue, hedge]
    have hsettled := takeSyncEdge_settled hdue
    refine ⟨_, exec_syncEdge_taken hreset hedge,
      exec_tick_congr sync hreset ((takeSyncEdge_resetHeld s).trans hreset) ?_⟩
    rw [settleTick_of_settled hsettled, settleTick, hfirst, settleOne_of_settled hsettled, settleOne_of_settled hsettled]
  case position =>
    exact ⟨_, exec_positionCommand_of_due hreset hdue,
      exec_tick_of_settleOne sync hreset (.inl hrange) (by rw [settleOne, hdue, hedge])⟩
  case free =>
    exact ⟨_, exec_syncEdge_taken hreset hedge,
      exec_tick_of_settleOne sync hreset (.inl hrange) (by rw [settleOne, hdue, hedge, hmode])⟩
  case edgeFirst =>
    exact ⟨_, exec_syncEdge_taken (s := { s with tieDraws := s.tieDraws + 1 }) hreset hedge,
      exec_tick_of_settleOne sync hreset (.inl hrange) (by simp only [settleOne, hdue, hedge, hmode, hfirst, if_true])⟩
  case positionFirst =>
    exact ⟨_, exec_positionCommand_of_due (s := { s with tieDraws := s.tieDraws + 1 }) hreset hdue,
      exec_tick_of_settleOne sync hreset (.inl hrange) (by simp [settleOne, hdue, hedge, hmode, hfirst])⟩

/-! ### What only a device reset takes back (R122, R137, R138) -/

section Retained

variable {s t u : State} {c : Instr}

/-- The live sections, the ramp steps and the seeds of one state stand in another. -/
structure Retained (s t : State) : Prop where
  liveE : s.plan.e.live.isSome = true → t.plan.e.live.isSome = true
  liveT : s.plan.t.live.isSome = true → t.plan.t.live.isSome = true
  liveB : s.plan.b.live.isSome = true → t.plan.b.live.isSome = true
  liveC : s.plan.c.live.isSome = true → t.plan.c.live.isSome = true
  stepE : s.plan.stepE.isSome = true → t.plan.stepE.isSome = true
  stepT : s.plan.stepT.isSome = true → t.plan.stepT.isSome = true
  seeded : ∀ i, (s.heat.accounts.get i).seeded = true → (t.heat.accounts.get i).seeded = true

theorem Retained.rfl : Retained s s := ⟨id, id, id, id, id, id, fun _ => id⟩

theorem Retained.trans (h : Retained s t) (h' : Retained t u) : Retained s u :=
  ⟨h'.liveE ∘ h.liveE, h'.liveT ∘ h.liveT, h'.liveB ∘ h.liveB, h'.liveC ∘ h.liveC, h'.stepE ∘ h.stepE, h'.stepT ∘ h.stepT,
    fun i => h'.seeded i ∘ h.seeded i⟩

/-- What keeps the plan and the heat accounts retains all. -/
theorem Retained.of_eq (hplan : t.plan = s.plan) (hheat : t.heat = s.heat) : Retained s t :=
  ⟨fun h => hplan ▸ h, fun h => hplan ▸ h, fun h => hplan ▸ h, fun h => hplan ▸ h, fun h => hplan ▸ h,
    fun h => hplan ▸ h, fun _ h => hheat ▸ h⟩

/-- Grading and integrating leave the seeds. -/
theorem heatStep_seeded (s : State) (i : Axle) :
    ((heatStep s).heat.accounts.get i).seeded = (s.heat.accounts.get i).seeded := by
  cases hb : s.plan.b.live with
  | none => rw [heatStep_accounts_of_not_live hb]
  | some b => rw [heatStep_account hb]; rfl

theorem makeBoundary_seeded (s : State) (i : Axle) :
    ((makeBoundary s).heat.accounts.get i).seeded = (s.heat.accounts.get i).seeded := by
  rw [makeBoundary_heat, heatedState, heatStep_seeded, heldState_heat]

theorem PlanStore.copied_stepE_isSome {x : PlanStore} (h : x.stepE.isSome = true) : x.copied.stepE.isSome = true := by
  rw [PlanStore.copied_stepE]
  split
  · rfl
  · exact h

theorem PlanStore.copied_stepT_isSome {x : PlanStore} (h : x.stepT.isSome = true) : x.copied.stepT.isSome = true := by
  rw [PlanStore.copied_stepT]
  split
  · rfl
  · exact h

theorem makeBoundary_retained (s : State) : Retained s (makeBoundary s) where
  liveE h := by rw [makeBoundary_plan]; exact Section.copied_live_isSome h
  liveT h := by rw [makeBoundary_plan]; exact Section.copied_live_isSome h
  liveB h := by rw [makeBoundary_plan]; exact Section.copied_live_isSome h
  liveC h := by rw [makeBoundary_plan]; exact Section.copied_live_isSome h
  stepE h := by rw [makeBoundary_plan]; exact PlanStore.copied_stepE_isSome h
  stepT h := by rw [makeBoundary_plan]; exact PlanStore.copied_stepT_isSome h
  seeded i h := (makeBoundary_seeded s i).trans h

/-- A change of the staged copies and the marks retains all. -/
theorem retained_of_live {plan : PlanStore}
    (hlive : plan.e.live = s.plan.e.live ∧ plan.t.live = s.plan.t.live ∧ plan.b.live = s.plan.b.live ∧
      plan.c.live = s.plan.c.live)
    (hstepE : plan.stepE = s.plan.stepE) (hstepT : plan.stepT = s.plan.stepT) :
    Retained s { s with plan := plan } := by
  obtain ⟨he, ht, hb, hc⟩ := hlive
  exact ⟨fun h => he ▸ h, fun h => ht ▸ h, fun h => hb ▸ h, fun h => hc ▸ h, fun h => hstepE ▸ h,
    fun h => hstepT ▸ h, fun _ => id⟩

theorem seedAccount_seeded (v : Option Int) (a : HeatAccount) (h : a.seeded = true) :
    (seedAccount v a).seeded = true := by
  cases v with
  | none => exact h
  | some x => simp [seedAccount, h]

theorem storeSeed_retained (d : List Byte) (s : State) : Retained s (storeSeed d s) :=
  ⟨id, id, id, id, id, id, fun i h => by
    simp only [storeSeed, PerAxle.get_map]
    exact seedAccount_seeded _ _ h⟩

theorem retained_invariant (s : State) : BlockInvariant (Retained s) where
  frame _ _ _ _ _ _ _ h := h.trans (.of_eq rfl rfl)
  boundary t h := h.trans (makeBoundary_retained t)
  publish _ _ h := h.trans (.of_eq (publishSet_plan ..) (publishSet_heat ..))
  demand _ _ _ h := h.trans (.of_eq (storeDemand_plan ..) (storeDemand_heat ..))
  holdSet _ _ h := h.trans (.of_eq rfl rfl)
  report _ _ _ h := h.trans (.of_eq (storeReport_plan ..) (storeReport_heat ..))
  staged _ _ _ _ h := h.trans (retained_of_live (PlanStore.writePart_live ..) (PlanStore.writePart_stepE ..)
    (PlanStore.writePart_stepT ..))
  seed t d h := h.trans (storeSeed_retained d t)
  commit _ _ _ h := h.trans (retained_of_live (PlanStore.setPending_live ..) (PlanStore.setPending_stepE ..)
    (PlanStore.setPending_stepT ..))
  withdraw _ _ h := h.trans (retained_of_live (PlanStore.setPending_live ..) (PlanStore.setPending_stepE ..)
    (PlanStore.setPending_stepT ..))
  restart _ h := h.trans (.of_eq rfl rfl)

theorem exec_retained (hc : c ≠ .deviceReset) (h : exec c s = .next t) : Retained s t :=
  ((retained_invariant s).kept c fun _ hreset => absurd hreset hc).exec h .rfl

/-! ### RESET, the counts and the masks (R171, R173, R175) -/

theorem Change.resetHeld (h : Change c s t) (hs : s.resetHeld = false) : t.resetHeld = false := by
  cases h with
  | stay | holdSet | staged | seed | mask | clearErrors | commit | withdraw | ack => exact hs
  | release => rfl
  | position x _ => exact (takePosition_resetHeld x s).trans hs
  | edge _ => exact (takeSyncEdge_resetHeld s).trans hs
  | demand index d => exact (storeDemand_resetHeld ..).trans hs
  | report index d => exact (storeReport_resetHeld ..).trans hs
  | restart =>
    obtain hboundary | hrequest := restartTimer_cases (restartBlocks s)
    · rw [hboundary]; exact (makeBoundary_resetHeld _).trans hs
    · rw [hrequest]; exact hs

theorem resetHeld_kept (hc : c ≠ .deviceReset) : Kept c fun s => s.resetHeld = false where
  draws _ _ h := h
  port _ _ _ _ h := h
  tick _ _ _ h := h
  change _ _ := Change.resetHeld
  reset _ hreset _ := absurd hreset hc

/-- A count in its range does not fall by a posting. -/
theorem le_bump {n : Nat} (h : n ≤ 255) : n ≤ bump n := le_min h (Nat.le_succ n)

theorem Postings.count_mono {ks : List EventKind} {e f : PerPort EventUnit} (h : Postings ks e f) (p : Port)
    (k : EventKind) (he : (e.get p).counts.get k ≤ 255) : (e.get p).counts.get k ≤ (f.get p).counts.get k := by
  induction h with
  | none => exact le_rfl
  | more k' ps _ hposted ih =>
    refine ih.trans ?_
    have hraised := le_bump (hposted.count_le p k he)
    by_cases hp : p ∈ ps <;> by_cases hk : k = k' <;> simp [EventUnit.post, hp, hk]
    exact hk ▸ hraised

/-- Within their range counts fall by an ACK alone. -/
theorem counts_kept (s : State) (hc : c ≠ .deviceReset) (hack : ∀ p stray, c ≠ .ack p stray) :
    Kept c fun t => CountsInRange t ∧ ∀ p k, (s.events.get p).counts.get k ≤ (t.events.get p).counts.get k where
  draws _ _ h := h
  port _ _ _ _ h := h
  tick _ _ _ h := h
  reset _ hreset _ := absurd hreset hc
  change t u hchange h := by
    refine ⟨hchange.countsInRange h.1, fun p k => (h.2 p k).trans ?_⟩
    obtain hposts | ⟨q, _, v, _, hmask⟩ | ⟨q, stray, _, hc, _⟩ := hchange.events_cases
    · exact hposts.count_mono p k (h.1 p k)
    · rw [hmask, PerPort.get_set]
      split
      next hq => rw [hq]
      next => exact le_rfl
    · exact absurd hc (hack q stray)

/-- Masks change by a write alone. -/
theorem masks_kept (s : State) (hc : c ≠ .deviceReset) (hwrite : ∀ p stray, c ≠ .writeEventMask p stray) :
    Kept c fun t => ∀ p, (t.events.get p).mask = (s.events.get p).mask where
  draws _ _ h := h
  port _ _ _ _ h := h
  tick _ _ _ h := h
  reset _ hreset _ := absurd hreset hc
  change t u hchange h p := by
    refine Eq.trans ?_ (h p)
    obtain hposts | ⟨q, stray, v, hc, _⟩ | ⟨q, _, echo, _, hack⟩ := hchange.events_cases
    · exact hposts.mask p
    · exact absurd hc (hwrite q stray)
    · rw [hack, PerPort.get_set]
      split
      next hq => rw [hq]; rfl
      next => rfl

/-- The period index stays or advances by one (R9). -/
theorem PublishedOnce.index (h : PublishedOnce s t) :
    t.timer.index = s.timer.index ∨ t.timer.index = nextIndex s.timer.index := by
  cases h with
  | kept _ hindex | restarted _ hindex => exact .inl hindex
  | published _ hindex => exact .inr hindex

end Retained

/-- Settles O59. -/
theorem onlyDeviceResetForgets : Obligations.OnlyDeviceResetForgets := by
  intro c s t hc hexec
  have hretained := exec_retained hc hexec
  exact ⟨hretained.liveE, hretained.liveT, hretained.liveB, hretained.liveC, hretained.stepE, hretained.stepT, hretained.seeded,
    (resetHeld_kept hc).exec hexec,
    fun hrange hack => ((counts_kept s hc hack).exec hexec ⟨hrange, fun _ _ => le_rfl⟩).2,
    fun hwrite => (masks_kept s hc hwrite).exec hexec fun _ => rfl, (exec_publishedOnce hc hexec).index⟩

end Sys2Proof.Machine
end

section
/-! PROOFS. The service split (R91 to R95): its claims, its passes, what they keep, and what they leave unserved. -/

namespace Sys2Proof.Machine

open Sys2Proof

/-! ### Claims (R92) -/

section Claims

variable {v room capacity : Nat}

theorem serveClaim_of_fits (h : v ≤ room) :
    serveClaim v room capacity = { grant := v, frozen := true, capped := false } := if_pos h

theorem serveClaim_of_cut (h : room < v) :
    serveClaim v room capacity = { grant := min room capacity, frozen := false, capped := true } := if_neg h.not_ge

theorem serveClaim_le_room (v room capacity : Nat) : (serveClaim v room capacity).grant ≤ room := by
  obtain h | h := le_or_gt v room
  · rw [serveClaim_of_fits h]; exact h
  · rw [serveClaim_of_cut h]; exact min_le_left _ _

/-- A claim cut back is within the capacity; one that is served keeps FROZEN (R99). -/
theorem serveClaim_within (v room capacity : Nat) :
    (serveClaim v room capacity).grant ≤ capacity ∨ (serveClaim v room capacity).frozen = true := by
  obtain h | h := le_or_gt v room
  · rw [serveClaim_of_fits h]; exact .inr rfl
  · rw [serveClaim_of_cut h]; exact .inl (min_le_right _ _)

theorem claimGrant_axleClaim_le (room : Nat) (x : AxleInput) : claimGrant (axleClaim room x) ≤ room := by
  unfold axleClaim
  cases x.frozen with
  | none => exact Nat.zero_le _
  | some v => exact serveClaim_le_room v room x.capacity

variable (s : Nat) (x : PerAxle AxleInput)

/-- The claims of a split: front before tag, and none at the drive axle. -/
def claimOf : Axle → Option Claim
  | .front => axleClaim s x.front
  | .drive => none
  | .tag => axleClaim (s - claimGrant (axleClaim s x.front)) x.tag

/-- The force that the claims take. -/
def claimed : Nat := claimGrant (claimOf s x .front) + claimGrant (claimOf s x .tag)

theorem claimed_le : claimed s x ≤ s := by
  have hfront : claimGrant (claimOf s x .front) ≤ s := claimGrant_axleClaim_le s x.front
  have htag : claimGrant (claimOf s x .tag) ≤ s - claimGrant (claimOf s x .front) :=
    claimGrant_axleClaim_le _ x.tag
  unfold claimed
  omega

variable {s x}

/-- With no frozen value at the drive axle, exactly the frozen axles claim. -/
theorem claimOf_eq_none_iff (hdrive : x.drive.frozen = none) (i : Axle) :
    claimOf s x i = none ↔ (x.get i).frozen = none := by
  cases i with
  | front => exact Option.map_eq_none_iff
  | drive => exact iff_of_true rfl hdrive
  | tag => exact Option.map_eq_none_iff

/-- An axle that claims is given its claim within the room it meets. -/
theorem claimOf_eq_some {c : Claim} {i : Axle} (h : claimOf s x i = some c) :
    ∃ v room, (x.get i).frozen = some v ∧ c = serveClaim v room (x.get i).capacity := by
  cases i with
  | front =>
    obtain ⟨v, hv, hc⟩ := Option.map_eq_some_iff.mp h
    exact ⟨v, _, hv, hc.symm⟩
  | drive => cases h
  | tag =>
    obtain ⟨v, hv, hc⟩ := Option.map_eq_some_iff.mp h
    exact ⟨v, _, hv, hc.symm⟩

end Claims

/-! ### One pass (R94, R95) -/

section Pass

variable {x : SplitState} {i : Axle}

/-- The sum of a value over the three axles. -/
def overAxles (f : Axle → Nat) : Nat := f .front + f .drive + f .tag

theorem le_overAxles (f : Axle → Nat) (i : Axle) : f i ≤ overAxles f := by
  cases i <;> unfold overAxles <;> omega

theorem overAxles_congr {f g : Axle → Nat} (h : ∀ i, f i = g i) : overAxles f = overAxles g := by
  simp only [overAxles, h]

/-- How many axles a pass may give more. -/
def SplitState.running (x : SplitState) : Nat := overAxles fun i => (x.axles.get i).active.toNat

theorem SplitState.inactive_of_running (h : x.running = 0) (i : Axle) : (x.axles.get i).active = false := by
  have hi := le_overAxles (fun i => (x.axles.get i).active.toNat) i
  rw [← SplitState.running, h] at hi
  simpa using hi

theorem passLeader_eq_none (h : ∀ i, (x.axles.get i).active = false) : passLeader x.axles = none := by
  cases hlead : passLeader x.axles with
  | none => rfl
  | some j =>
    have hleads := passLeader_leaderSoFar x.axles
    rw [hlead] at hleads
    exact absurd (hleads.2.1.symm.trans (h j)) (by decide)

theorem splitPass_of_no_active (h : ∀ i, (x.axles.get i).active = false) : splitPass x = x :=
  if_pos (passLeader_eq_none h)

theorem passGives_of_inactive (amount : Nat) (h : (x.axles.get i).active = false)
    (hactive : ∃ j, (x.axles.get j).active = true) : passGives amount x.axles i = 0 := by
  obtain ⟨j, hleader, hj, _⟩ := exists_passLeader hactive
  have hne : i ≠ j := by rintro rfl; simp [h] at hj
  rw [passGives_other amount hleader hne, passShare_of_inactive amount h]

variable (hactive : ∃ j, (x.axles.get j).active = true)
include hactive

theorem splitPass_axle (i : Axle) :
    (splitPass x).axles.get i = (x.axles.get i).given (passGives x.pool x.axles i) := by
  obtain ⟨j, hleader, _⟩ := exists_passLeader hactive
  simp [splitPass, hleader]

theorem splitPass_pool :
    (splitPass x).pool = overAxles fun i => (x.axles.get i).cutAmount (passGives x.pool x.axles i) := by
  obtain ⟨j, hleader, _⟩ := exists_passLeader hactive
  rw [splitPass, if_neg (by simp [hleader])]
  rfl

theorem overAxles_passGives : overAxles (passGives x.pool x.axles) = x.pool := by
  obtain ⟨j, hleader, _⟩ := exists_passLeader hactive
  exact passGives_sum x.pool hleader

end Pass

/-! ### What the passes keep -/

section Sound

variable {free : Axle → Bool} {cap : Axle → Nat} {amount : Nat} {x : SplitState}

/-- What the passes keep of a split of an amount over the free axles: the totals within the caps, an axle without a claim
out of the passes only at its cap, and no newton lost. -/
structure SplitSound (free : Axle → Bool) (cap : Axle → Nat) (amount : Nat) (x : SplitState) : Prop where
  caps : ∀ i, (x.axles.get i).cap = cap i
  bounded : ∀ i, (x.axles.get i).total ≤ cap i
  idle : ∀ i, free i = false → (x.axles.get i).active = false ∧ (x.axles.get i).total = 0
  full : ∀ i, free i = true → (x.axles.get i).active = false → (x.axles.get i).total = cap i
  whole : (overAxles fun i => (x.axles.get i).total) + x.pool = amount

theorem SplitSound.pass (h : SplitSound free cap amount x) : SplitSound free cap amount (splitPass x) := by
  by_cases hactive : ∃ j, (x.axles.get j).active = true
  case neg =>
    rw [splitPass_of_no_active fun i => by simpa using fun hi => hactive ⟨i, hi⟩]
    exact h
  have haxle := splitPass_axle hactive
  refine ⟨fun i => ?_, fun i => ?_, fun i hi => ?_, fun i hi hout => ?_, ?_⟩
  · rw [haxle]; exact h.caps i
  · rw [haxle, ← h.caps i]; exact min_le_right _ _
  · obtain ⟨hout, hzero⟩ := h.idle i hi
    rw [haxle, passGives_of_inactive _ hout hactive]
    simp [SplitAxle.given, hout, hzero]
  · rw [haxle] at hout ⊢
    have hcap := h.caps i
    have hbound := h.bounded i
    have hfull := h.full i hi
    simp only [SplitAxle.given, Bool.and_eq_false_iff, decide_eq_false_iff_not, not_lt] at hout ⊢
    obtain hout | hreached := hout
    · rw [hcap, hfull hout]; exact min_eq_right (Nat.le_add_right _ _)
    · rw [min_eq_right hreached, hcap]
  · have hgives := overAxles_passGives hactive
    have hsum := h.whole
    rw [splitPass_pool hactive]
    simp only [haxle, overAxles, SplitAxle.given, SplitAxle.cutAmount] at hgives hsum ⊢
    omega

/-- A pool of 0 stays so: nothing is given, and nothing is cut. -/
theorem SplitSound.pool_zero (h : SplitSound free cap amount x) (hpool : x.pool = 0) : (splitPass x).pool = 0 := by
  by_cases hactive : ∃ j, (x.axles.get j).active = true
  case neg =>
    rw [splitPass_of_no_active fun i => by simpa using fun hi => hactive ⟨i, hi⟩]
    exact hpool
  have hgives := overAxles_passGives hactive
  have hcut : ∀ i, (x.axles.get i).cutAmount (passGives x.pool x.axles i) = 0 := fun i => by
    have hgive := le_overAxles (passGives x.pool x.axles) i
    have hcap := h.caps i
    have hbound := h.bounded i
    unfold SplitAxle.cutAmount
    omega
  rw [splitPass_pool hactive, overAxles_congr hcut]
  rfl

/-- An axle that a pass cuts has been in the pass, and is out of the next one. -/
theorem SplitSound.cut_leaves (h : SplitSound free cap amount x) (hactive : ∃ j, (x.axles.get j).active = true) {i : Axle}
    (hcut : (x.axles.get i).cutAmount (passGives x.pool x.axles i) ≠ 0) :
    (x.axles.get i).active = true ∧ ((splitPass x).axles.get i).active = false := by
  have hcap := h.caps i
  have hbound := h.bounded i
  unfold SplitAxle.cutAmount at hcut
  constructor
  · by_contra hout
    rw [passGives_of_inactive _ (by simpa using hout) hactive] at hcut
    omega
  · rw [splitPass_axle hactive]
    simp only [SplitAxle.given, Bool.and_eq_false_iff, decide_eq_false_iff_not]
    omega

/-- A pass serves the whole pool, or an axle leaves. -/
theorem SplitSound.progress (h : SplitSound free cap amount x) :
    (splitPass x).pool = 0 ∨ (splitPass x).running ≤ x.running - 1 := by
  by_cases hactive : ∃ j, (x.axles.get j).active = true
  case neg =>
    have hnone : ∀ i, (x.axles.get i).active = false := fun i => by simpa using fun hi => hactive ⟨i, hi⟩
    rw [splitPass_of_no_active hnone]
    exact .inr (by simp [SplitState.running, overAxles, hnone])
  have hless : ∀ i, ((splitPass x).axles.get i).active.toNat ≤ (x.axles.get i).active.toNat := fun i => by
    rw [splitPass_axle hactive]
    cases hi : (x.axles.get i).active <;> simp [SplitAxle.given, hi, Bool.toNat_le]
  have hcut : ∀ i, (x.axles.get i).cutAmount (passGives x.pool x.axles i) = 0 ∨
      ((splitPass x).axles.get i).active.toNat + 1 ≤ (x.axles.get i).active.toNat := fun i => by
    by_cases hzero : (x.axles.get i).cutAmount (passGives x.pool x.axles i) = 0
    · exact .inl hzero
    · obtain ⟨hin, hout⟩ := h.cut_leaves hactive hzero
      exact .inr (by rw [hin, hout]; exact le_rfl)
  have hfront := hless .front
  have hdrive := hless .drive
  have htag := hless .tag
  rw [splitPass_pool hactive]
  simp only [SplitState.running, overAxles]
  obtain hf | hf := hcut .front
  · obtain hd | hd := hcut .drive
    · obtain ht | ht := hcut .tag
      · exact .inl (by rw [hf, hd, ht])
      · omega
    · omega
  · omega

/-- After as many passes as there are axles, the whole is served or every axle is out. -/
theorem SplitSound.three_passes (h : SplitSound free cap amount x) :
    (splitPass (splitPass (splitPass x))).pool = 0 ∨
    ∀ i, ((splitPass (splitPass (splitPass x))).axles.get i).active = false := by
  have hthree : x.running ≤ 3 := by
    have := Bool.toNat_le (x.axles.get .front).active
    have := Bool.toNat_le (x.axles.get .drive).active
    have := Bool.toNat_le (x.axles.get .tag).active
    simp only [SplitState.running, overAxles]
    omega
  obtain hpool | hrunning := h.progress
  · exact .inl (h.pass.pass.pool_zero (h.pass.pool_zero hpool))
  · obtain hpool | hrunning' := h.pass.progress
    · exact .inl (h.pass.pass.pool_zero hpool)
    · obtain hpool | hrunning'' := h.pass.pass.progress
      · exact .inl hpool
      · exact .inr (SplitState.inactive_of_running (by omega))

end Sound

/-! ### The whole split -/

section Split

variable (s : Nat) (x : PerAxle AxleInput) {i : Axle}

/-- The split before its passes. -/
def splitStart : SplitState :=
  { axles := PerAxle.build fun i => enterSplit (claimOf s x i) (x.get i), pool := s - claimed s x }

/-- The split after its passes. -/
def splitDone : SplitState := splitPass (splitPass (splitPass (splitStart s x)))

theorem serviceSplit_get (i : Axle) :
    (serviceSplit s x).get i = serviceGrantOf (claimOf s x i) ((splitDone s x).axles.get i) := by
  unfold splitDone splitStart claimed
  rw [← Nat.sub_sub]
  cases i <;> rfl

variable {s x}

theorem serviceSplit_of_free (h : claimOf s x i = none) :
    (serviceSplit s x).get i =
      { grant := ((splitDone s x).axles.get i).total, frozen := false, capped := ((splitDone s x).axles.get i).cut } := by
  rw [serviceSplit_get, h]; rfl

theorem serviceSplit_of_claim {c : Claim} (h : claimOf s x i = some c) :
    (serviceSplit s x).get i = { grant := c.grant, frozen := c.frozen, capped := c.capped } := by
  rw [serviceSplit_get, h]; rfl

variable (s x)

theorem splitStart_sound :
    SplitSound (fun i => (claimOf s x i).isNone) (fun i => (x.get i).cap) (s - claimed s x) (splitStart s x) where
  caps i := by simp [splitStart, enterSplit]
  bounded i := by simp [splitStart, enterSplit]
  idle i hi := by simpa [splitStart, enterSplit] using hi
  full i hi hout := by
    simp only [splitStart, PerAxle.get_build, enterSplit] at hout
    exact absurd (hi.symm.trans hout) (by decide)
  whole := by simp [splitStart, enterSplit, overAxles]

theorem splitDone_sound :
    SplitSound (fun i => (claimOf s x i).isNone) (fun i => (x.get i).cap) (s - claimed s x) (splitDone s x) :=
  (splitStart_sound s x).pass.pass.pass

/-- A service grant is the axle's claim and its total, of which one is 0. -/
theorem serviceSplit_grant (i : Axle) :
    ((serviceSplit s x).get i).grant = claimGrant (claimOf s x i) + ((splitDone s x).axles.get i).total := by
  cases hclaim : claimOf s x i with
  | none => rw [serviceSplit_of_free hclaim]; exact (Nat.zero_add _).symm
  | some c =>
    rw [serviceSplit_of_claim hclaim, ((splitDone_sound s x).idle i (by rw [hclaim]; rfl)).2]
    rfl

/-- The grants and what is left unserved make up the remainder. -/
theorem serviceSplit_sum :
    (overAxles fun i => ((serviceSplit s x).get i).grant) + (splitDone s x).pool = s := by
  have hwhole := (splitDone_sound s x).whole
  have hclaimed := claimed_le s x
  have hdrive : claimGrant (claimOf s x .drive) = 0 := rfl
  simp only [overAxles, serviceSplit_grant, hdrive] at hwhole ⊢
  unfold claimed at hwhole hclaimed
  omega

variable {s x}

theorem serviceSplit_free_le_cap (h : claimOf s x i = none) : ((serviceSplit s x).get i).grant ≤ (x.get i).cap := by
  rw [serviceSplit_of_free h]
  exact (splitDone_sound s x).bounded i

/-- What is left unserved leaves every axle without a claim at its cap. -/
theorem serviceSplit_full (hleft : (overAxles fun i => ((serviceSplit s x).get i).grant) < s) (h : claimOf s x i = none) :
    ((serviceSplit s x).get i).grant = (x.get i).cap := by
  have hsum := serviceSplit_sum s x
  obtain hpool | hout := (splitStart_sound s x).three_passes
  · rw [splitDone, hpool] at hsum
    omega
  · rw [serviceSplit_of_free h]
    exact (splitDone_sound s x).full i (by rw [h]; rfl) (hout i)

/-- A service grant is within its capacity, where its cap is, unless it is frozen (R99). -/
theorem serviceSplit_within (hcap : (x.get i).cap ≤ (x.get i).capacity) :
    ((serviceSplit s x).get i).grant ≤ (x.get i).capacity ∨ ((serviceSplit s x).get i).frozen = true := by
  cases hclaim : claimOf s x i with
  | none => exact .inl ((serviceSplit_free_le_cap hclaim).trans hcap)
  | some c =>
    obtain ⟨v, room, _, rfl⟩ := claimOf_eq_some hclaim
    rw [serviceSplit_of_claim hclaim]
    exact serveClaim_within v room (x.get i).capacity

/-- What an axle claims, read off its grant. -/
theorem claimGrant_claimOf (hdrive : x.drive.frozen = none) (i : Axle) :
    (if (x.get i).frozen = none then 0 else ((serviceSplit s x).get i).grant) = claimGrant (claimOf s x i) := by
  cases hclaim : claimOf s x i with
  | none => rw [if_pos ((claimOf_eq_none_iff hdrive i).mp hclaim)]; rfl
  | some c =>
    have hfrozen : (x.get i).frozen ≠ none := fun hnone => by simp [(claimOf_eq_none_iff hdrive i).mpr hnone] at hclaim
    rw [if_neg hfrozen, serviceSplit_of_claim hclaim]
    rfl

/-- A claim's grant and flags, by whether it fits the room it meets (R92). -/
theorem serviceSplit_of_serveClaim {v room : Nat} (h : claimOf s x i = some (serveClaim v room (x.get i).capacity)) :
    (v ≤ room → (serviceSplit s x).get i = { grant := v, frozen := true, capped := false }) ∧
    (room < v →
      (serviceSplit s x).get i = { grant := min room (x.get i).capacity, frozen := false, capped := true }) := by
  rw [serviceSplit_of_claim h]
  exact ⟨fun hfits => by rw [serveClaim_of_fits hfits], fun hcut => by rw [serveClaim_of_cut hcut]⟩

/-- An axle as it enters the split, read off its input. -/
theorem enterSplit_claimOf (hdrive : x.drive.frozen = none) (i : Axle) :
    enterSplit (claimOf s x i) (x.get i) =
      { active := decide ((x.get i).frozen = none), factor := (x.get i).factor, cap := (x.get i).cap, total := 0,
        cut := false } := by
  have hfree : (claimOf s x i).isNone = decide ((x.get i).frozen = none) := by
    rw [Bool.eq_iff_iff, Option.isNone_iff_eq_none, decide_eq_true_iff]
    exact claimOf_eq_none_iff hdrive i
  rw [enterSplit, hfree]

end Split

/-- Settles O24: a pass either serves its whole pool or takes an axle out, so three passes leave a newton unserved only
with every axle at its cap. -/
theorem serviceSplitServesClaimsThenShares : Obligations.ServiceSplitServesClaimsThenShares := by
  refine ⟨fun x => ⟨splitPass_of_no_active, fun hactive => ⟨splitPass_axle hactive, splitPass_pool hactive⟩⟩,
    fun s x hdrive => ?split⟩
  intro g
  have hfree := claimOf_eq_none_iff (s := s) hdrive
  have hfront : (if x.front.frozen = none then 0 else g.front.grant) = claimGrant (claimOf s x .front) :=
    claimGrant_claimOf hdrive .front
  have htag : (if x.tag.frozen = none then 0 else g.tag.grant) = claimGrant (claimOf s x .tag) :=
    claimGrant_claimOf hdrive .tag
  refine ⟨fun v hv => ?front, fun v hv => ?tag, ?rest⟩
  case front => exact serviceSplit_of_serveClaim (i := .front) (congrArg (Option.map _) hv)
  case tag =>
    intro room
    have hroom : room = s - claimGrant (claimOf s x .front) := congrArg (s - ·) hfront
    rw [hroom]
    exact serviceSplit_of_serveClaim (i := .tag) (congrArg (Option.map _) hv)
  case rest =>
    intro start claims first done
    have hfirst : first = splitStart s x := by
      have hclaims : claims = claimed s x := congrArg₂ (· + ·) hfront htag
      simp only [first, splitStart, PerAxle.build, hclaims, enterSplit_claimOf hdrive, start]
    have hdone : done = splitDone s x := by simp only [done, hfirst]; rfl
    have hsum := serviceSplit_sum s x
    refine ⟨fun i hi => ?_, fun i hi => serviceSplit_free_le_cap ((hfree i).mpr hi), ?_,
      fun hless i hi => serviceSplit_full hless ((hfree i).mpr hi)⟩
    · rw [hdone]
      exact serviceSplit_of_free ((hfree i).mpr hi)
    · exact (Nat.le_add_right _ _).trans hsum.le

end Sys2Proof.Machine
end

section
/-! PROOFS. The invariants of the grant sets (R96, R99, R103), and the reset state, which meets every invariant. -/

namespace Sys2Proof.Machine

open Sys2Proof

/-! ### A computed set keeps its sums (R91, R96, R99) -/

section Computed

/-- In either order the endurance grants share the demand and the ceiling. -/
theorem endurancePair_sum_le (order d eCap : Nat) (e r : BrakeInput) :
    (endurancePair order d eCap e r).e.grant + (endurancePair order d eCap e r).r.grant ≤ min d eCap := by
  unfold endurancePair
  split
  · obtain ⟨hd, _, hceiling, _⟩ := enduranceGrant_le d e.capacity eCap e.prev e.step
    obtain ⟨hd', _, hceiling', _⟩ := enduranceGrant_le
      (d - (enduranceGrant d e.capacity eCap e.prev e.step).grant) r.capacity
      (eCap - (enduranceGrant d e.capacity eCap e.prev e.step).grant) r.prev r.step
    simp only at hd' hceiling' ⊢
    omega
  · obtain ⟨hd, _, hceiling, _⟩ := enduranceGrant_le d r.capacity eCap r.prev r.step
    obtain ⟨hd', _, hceiling', _⟩ := enduranceGrant_le
      (d - (enduranceGrant d r.capacity eCap r.prev r.step).grant) e.capacity
      (eCap - (enduranceGrant d r.capacity eCap r.prev r.step).grant) e.prev e.step
    simp only at hd' hceiling' ⊢
    omega

theorem expectedForce_le (grant : Nat) (x : BrakeInput) : expectedForce grant x ≤ grant := by
  unfold expectedForce
  split
  · exact min_le_left _ _
  · exact le_rfl

variable (live : PlanCopy) (s : State)

/-! The values that a computed set is made of, each by its rule. -/

/-- The demand of the set (R55). -/
def setDemand : Resolution := resolve live.c (latchedMass s.latched live.c.nominalMass) s.demand

/-- The drive axle ceiling of the set (R77). -/
def setCeiling : Nat := driveCeiling live.c (latchedMass s.latched live.c.nominalMass)

/-- What the endurance stage takes of the exhaust brake. -/
def setExhaust : BrakeInput := brakeInput (exhaustResult live s.latched s.cap) s.app.prevE s.plan.stepE

/-- What the endurance stage takes of the retarder. -/
def setRetarder : BrakeInput := brakeInput (retarderResult live s.latched s.cap) s.app.prevR s.plan.stepT

/-- The endurance grants of the set (R84, R85). -/
def setPair : EndurancePair :=
  endurancePair live.c.order (setDemand live s).d (setCeiling live s) (setExhaust live s) (setRetarder live s)

/-- The expected endurance force of the set (R89). -/
def setExpected : Nat :=
  expectedForce (setPair live s).e.grant (setExhaust live s) + expectedForce (setPair live s).r.grant (setRetarder live s)

/-- The service remainder of the set (R90). -/
def setRemainder : Nat := min (setDemand live s).d (setDemand live s).dSvc - setExpected live s

/-- The input of the set's split for each axle (R91). -/
def setInputs : PerAxle AxleInput :=
  PerAxle.build (axleInput live s (setCeiling live s - ((setPair live s).e.grant + (setPair live s).r.grant)))

/-- The service grants of the set (R92 to R95). -/
def setSplit : PerAxle ServiceGrant := serviceSplit (setRemainder live s) (setInputs live s)

/-- A computed set, by its values. -/
theorem computeSet_eq :
    computeSet live s =
      { periodIndex := 0, valid := false,
        exhaust := enduranceRecord (exhaustResult live s.latched s.cap) (setPair live s).e
          (exhaustTorque (setPair live s).e.grant (latchedGear s.latched) live.t.axleRatio live.t.radius),
        retarder := enduranceRecord (retarderResult live s.latched s.cap) (setPair live s).r
          (retarderTorque (setPair live s).r.grant live.t.axleRatio live.t.radius),
        service := (setSplit live s).map fun i g =>
          serviceRecord live s.latched i ((setInputs live s).get i).capacity g,
        summary :=
          { state := s.app.engine, d := (setDemand live s).d, dSvc := (setDemand live s).dSvc, eCap := setCeiling live s,
            xE := expectedForce (setPair live s).e.grant (setExhaust live s),
            xR := expectedForce (setPair live s).r.grant (setRetarder live s), s := setRemainder live s,
            shortfall := (setDemand live s).d -
              (setExpected live s + ((setSplit live s).front.grant + (setSplit live s).drive.grant +
                (setSplit live s).tag.grant)),
            holdValue := (setDemand live s).hold } } := rfl

variable {live s}

theorem setPair_sum_le :
    (setPair live s).e.grant + (setPair live s).r.grant ≤ min (setDemand live s).d (setCeiling live s) :=
  endurancePair_sum_le ..

theorem setExpected_le : setExpected live s ≤ (setPair live s).e.grant + (setPair live s).r.grant :=
  Nat.add_le_add (expectedForce_le ..) (expectedForce_le ..)

/-- The expected forces and the service grants are within the demand, so that the shortfall is no truncated difference. -/
theorem setTotal_le :
    setExpected live s + ((setSplit live s).front.grant + (setSplit live s).drive.grant + (setSplit live s).tag.grant) ≤
      (setDemand live s).d := by
  have hpair := setPair_sum_le (live := live) (s := s)
  have hexpected := setExpected_le (live := live) (s := s)
  have hsplit : (setSplit live s).front.grant + (setSplit live s).drive.grant + (setSplit live s).tag.grant ≤
      setRemainder live s := (Nat.le_add_right _ _).trans (serviceSplit_sum (setRemainder live s) (setInputs live s)).le
  unfold setRemainder at hsplit
  omega

theorem setInputs_drive_cap_le :
    ((setInputs live s).get .drive).cap ≤
      setCeiling live s - ((setPair live s).e.grant + (setPair live s).r.grant) := by
  rw [setInputs, PerAxle.get_build]
  exact min_le_right _ _

theorem setInputs_cap_le (i : Axle) : ((setInputs live s).get i).cap ≤ ((setInputs live s).get i).capacity := by
  rw [setInputs, PerAxle.get_build, axleInput]
  split
  · exact min_le_left _ _
  · exact le_rfl

/-- The drive grant keeps within what the endurance grants leave of the ceiling (R91). -/
theorem setSplit_drive_le :
    (setPair live s).e.grant + (setPair live s).r.grant + (setSplit live s).drive.grant ≤ setCeiling live s := by
  have hpair := setPair_sum_le (live := live) (s := s)
  have hroom := setInputs_drive_cap_le (live := live) (s := s)
  have hgrant : (setSplit live s).drive.grant ≤ ((setInputs live s).get .drive).cap :=
    serviceSplit_free_le_cap (i := .drive) rfl
  omega

theorem setSplit_within (i : Axle) :
    ((setSplit live s).get i).grant ≤ ((setInputs live s).get i).capacity ∨ ((setSplit live s).get i).frozen = true :=
  serviceSplit_within (setInputs_cap_le i)

theorem computeSet_balanced (live : PlanCopy) (s : State) : (computeSet live s).Balanced := by
  rw [computeSet_eq]
  obtain ⟨hexhaust, hretarder, _⟩ := endurancePair_le live.c.order (setDemand live s).d (setCeiling live s)
    (setExhaust live s) (setRetarder live s)
  have htotal := setTotal_le (live := live) (s := s)
  refine ⟨setPair_sum_le, setSplit_drive_le, ?_, hexhaust, hretarder, setSplit_within .front, setSplit_within .drive,
    setSplit_within .tag⟩
  exact Nat.add_sub_cancel' htotal

theorem zero_balanced (engine : EngineState) (index : Nat) : (GrantSet.zero engine index).Balanced := by
  refine ⟨Nat.zero_le _, Nat.zero_le _, rfl, Nat.zero_le _, Nat.zero_le _, .inl (Nat.zero_le _), .inl (Nat.zero_le _),
    .inl (Nat.zero_le _)⟩

theorem zero_grantsNothing (engine : EngineState) (index : Nat) : (GrantSet.zero engine index).GrantsNothing :=
  ⟨rfl, rfl, rfl, rfl, rfl⟩

/-- The set that a boundary begins is one of zeros, or computed in the state that the boundary decides. -/
theorem makeBoundary_pendingSet_cases (s : State) {g : GrantSet} (h : (makeBoundary s).app.pendingSet = some g) :
    (boundaryEngine s = .unplanned ∧ g = GrantSet.zero .unplanned 0) ∨
    ∃ live, s.plan.copied.allLive = some live ∧ boundaryEngine s ≠ .unplanned ∧
      g = computeSet live (evaluatedState live s) := by
  cases hlive : s.plan.copied.allLive with
  | none =>
    rw [(makeBoundary_unplanned hlive).1] at h
    exact .inl ⟨boundaryEngine_eq_unplanned_iff.mpr hlive, (Option.some.inj h).symm⟩
  | some live =>
    rw [(makeBoundary_live hlive).1] at h
    refine .inr ⟨live, rfl, fun hengine => ?_, (Option.some.inj h).symm⟩
    simp [boundaryEngine_eq_unplanned_iff.mp hengine] at hlive

end Computed

/-! ### Every set keeps its sums -/

section Balanced

variable {s t : State}

theorem SetsBalanced.congr (happ : t.app = s.app) (h : SetsBalanced s) : SetsBalanced t := by
  rwa [SetsBalanced, happ]

theorem setsBalanced_makeBoundary (h : SetsBalanced s) : SetsBalanced (makeBoundary s) := by
  refine ⟨by rw [makeBoundary_published]; exact h.1, fun g hg => ?_⟩
  obtain ⟨_, rfl⟩ | ⟨live, _, _, rfl⟩ := makeBoundary_pendingSet_cases s hg
  · exact zero_balanced _ _
  · exact computeSet_balanced _ _

theorem setsBalanced_publishSet (index : Nat) (h : SetsBalanced s) : SetsBalanced (publishSet index s) := by
  cases hpending : s.app.pendingSet with
  | none => simpa [publishSet, hpending] using h
  | some g =>
    rw [SetsBalanced, publishSet_app index hpending]
    exact ⟨h.2 g hpending, fun _ hg => nomatch hg⟩

theorem setsBalanced_invariant : BlockInvariant SetsBalanced where
  frame _ _ _ _ _ _ _ h := h
  boundary _ := setsBalanced_makeBoundary
  publish _ index := setsBalanced_publishSet index
  demand _ _ _ := SetsBalanced.congr (storeDemand_app ..)
  holdSet _ _ h := h
  report _ _ _ := SetsBalanced.congr (storeReport_app ..)
  staged _ _ _ _ h := h
  seed _ _ h := h
  commit _ _ _ h := h
  withdraw _ _ h := h
  restart _ _ := ⟨zero_balanced _ _, fun _ hg => nomatch hg⟩

theorem setsBalanced_reset : SetsBalanced State.reset := ⟨zero_balanced _ _, fun _ hg => nomatch hg⟩

/-! ### With VALID clear nothing is granted (R103) -/

theorem InvalidSetsAreZero.congr (happ : t.app = s.app) (h : InvalidSetsAreZero s) : InvalidSetsAreZero t := by
  rwa [InvalidSetsAreZero, happ]

theorem invalidSetsAreZero_makeBoundary (h : InvalidSetsAreZero s) : InvalidSetsAreZero (makeBoundary s) := by
  refine ⟨by rw [makeBoundary_published]; exact h.1, fun g hg hstate => ?_⟩
  obtain ⟨_, rfl⟩ | ⟨live, _, hengine, rfl⟩ := makeBoundary_pendingSet_cases s hg
  · exact zero_grantsNothing _ _
  · rw [computeSet_eq, evaluatedState_app] at hstate
    exact absurd hstate hengine

theorem invalidSetsAreZero_publishSet (index : Nat) (h : InvalidSetsAreZero s) :
    InvalidSetsAreZero (publishSet index s) := by
  cases hpending : s.app.pendingSet with
  | none => simpa [publishSet, hpending] using h
  | some g =>
    rw [InvalidSetsAreZero, publishSet_app index hpending]
    exact ⟨fun hvalid => h.2 g hpending (by simpa using hvalid), fun _ hg => nomatch hg⟩

theorem invalidSetsAreZero_invariant : BlockInvariant InvalidSetsAreZero where
  frame _ _ _ _ _ _ _ h := h
  boundary _ := invalidSetsAreZero_makeBoundary
  publish _ index := invalidSetsAreZero_publishSet index
  demand _ _ _ := InvalidSetsAreZero.congr (storeDemand_app ..)
  holdSet _ _ h := h
  report _ _ _ := InvalidSetsAreZero.congr (storeReport_app ..)
  staged _ _ _ _ h := h
  seed _ _ h := h
  commit _ _ _ h := h
  withdraw _ _ h := h
  restart _ _ := ⟨fun _ => zero_grantsNothing _ _, fun _ hg => nomatch hg⟩

theorem invalidSetsAreZero_reset : InvalidSetsAreZero State.reset :=
  ⟨fun _ => zero_grantsNothing _ _, fun _ hg => nomatch hg⟩

/-! ### UNPLANNED grants nothing (R103, R106, R144) -/

theorem UnplannedIsInvalid.congr (happ : t.app = s.app)
    (hlive : t.plan.e.live = s.plan.e.live ∧ t.plan.t.live = s.plan.t.live ∧ t.plan.b.live = s.plan.b.live ∧
      t.plan.c.live = s.plan.c.live) (h : UnplannedIsInvalid s) : UnplannedIsInvalid t := by
  obtain ⟨he, ht, hb, hc⟩ := hlive
  rwa [UnplannedIsInvalid, happ, he, ht, hb, hc]

/-- A boundary that finds a section missing finds the engine in UNPLANNED, since live sections stay live. -/
theorem UnplannedIsInvalid.engine_of_boundary (h : UnplannedIsInvalid s) (hengine : boundaryEngine s = .unplanned) :
    s.app.engine = .unplanned := by
  by_contra hplanned
  obtain ⟨he, ht, hb, hc⟩ := h.2.1 hplanned
  have hall : s.plan.copied.allLive.isSome = true := by
    rw [PlanStore.allLive_isSome, PlanStore.copied_e, PlanStore.copied_t, PlanStore.copied_b, PlanStore.copied_c,
      Section.copied_live_isSome he, Section.copied_live_isSome ht, Section.copied_live_isSome hb,
      Section.copied_live_isSome hc]
    rfl
  simp [boundaryEngine_eq_unplanned_iff.mp hengine] at hall

/-- A boundary that leaves UNPLANNED has four live sections. -/
theorem makeBoundary_live_of_planned (hengine : boundaryEngine s ≠ .unplanned) :
    (makeBoundary s).plan.e.live.isSome = true ∧ (makeBoundary s).plan.t.live.isSome = true ∧
    (makeBoundary s).plan.b.live.isSome = true ∧ (makeBoundary s).plan.c.live.isSome = true := by
  have hall : s.plan.copied.allLive.isSome = true :=
    Option.isSome_iff_ne_none.mpr fun hnone => hengine (boundaryEngine_eq_unplanned_iff.mpr hnone)
  rw [PlanStore.allLive_isSome] at hall
  rw [makeBoundary_plan]
  simpa only [Bool.and_eq_true, and_assoc] using hall

theorem unplannedIsInvalid_makeBoundary (h : UnplannedIsInvalid s) : UnplannedIsInvalid (makeBoundary s) := by
  rw [UnplannedIsInvalid, makeBoundary_engine, makeBoundary_published]
  refine ⟨fun hengine => h.1 (h.engine_of_boundary hengine), makeBoundary_live_of_planned, fun g hg => ?_⟩
  obtain ⟨hengine, rfl⟩ | ⟨live, _, hengine, rfl⟩ := makeBoundary_pendingSet_cases s hg
  · exact ⟨hengine.symm, fun _ => zero_grantsNothing _ _⟩
  · rw [computeSet_eq, evaluatedState_app]
    exact ⟨rfl, fun hunplanned => absurd hunplanned hengine⟩

theorem unplannedIsInvalid_publishSet (index : Nat) (h : UnplannedIsInvalid s) :
    UnplannedIsInvalid (publishSet index s) := by
  cases hpending : s.app.pendingSet with
  | none => simpa [publishSet, hpending] using h
  | some g =>
    obtain ⟨hstate, hnothing⟩ := h.2.2 g hpending
    rw [UnplannedIsInvalid, publishSet_plan, publishSet_app index hpending, hstate]
    exact ⟨fun hengine => ⟨decide_eq_false (not_not.mpr hengine), hnothing hengine⟩, h.2.1, fun _ hg => nomatch hg⟩

theorem unplannedIsInvalid_invariant : BlockInvariant UnplannedIsInvalid where
  frame _ _ _ _ _ _ _ h := h
  boundary _ := unplannedIsInvalid_makeBoundary
  publish _ index := unplannedIsInvalid_publishSet index
  demand _ _ _ := UnplannedIsInvalid.congr (storeDemand_app ..) (by simp)
  holdSet _ _ h := h
  report _ _ _ := UnplannedIsInvalid.congr (storeReport_app ..) (by simp)
  staged s index d _ := UnplannedIsInvalid.congr (s := s) rfl (PlanStore.writePart_live ..)
  seed _ _ h := h
  commit s p _ := UnplannedIsInvalid.congr (s := s) rfl (PlanStore.setPending_live ..)
  withdraw s p := UnplannedIsInvalid.congr (s := s) rfl (PlanStore.setPending_live ..)
  restart _ h := ⟨fun _ => ⟨rfl, zero_grantsNothing _ _⟩, h.2.1, fun _ hg => nomatch hg⟩

theorem unplannedIsInvalid_reset : UnplannedIsInvalid State.reset :=
  ⟨fun _ => ⟨rfl, zero_grantsNothing _ _⟩, fun hplanned => absurd rfl hplanned, fun _ hg => nomatch hg⟩

end Balanced

/-- Settles O57: a computed set is balanced whatever its inputs, and a section that is live stays live. -/
theorem grantSetsStayBalanced : Obligations.GrantSetsStayBalanced :=
  ⟨fun _ _ hs hstep => setsBalanced_invariant.step (fun _ _ => setsBalanced_reset) hs hstep,
    fun _ _ hs hstep => invalidSetsAreZero_invariant.step (fun _ _ => invalidSetsAreZero_reset) hs hstep,
    fun _ _ hs hstep => unplannedIsInvalid_invariant.step (fun _ _ => unplannedIsInvalid_reset) hs hstep⟩

/-- Settles O60. -/
theorem resetMeetsEveryInvariant : Obligations.ResetMeetsEveryInvariant :=
  ⟨countsInRange_reset, fun p => by cases p <;> exact Nat.zero_le _, fun p => by cases p <;> exact Nat.zero_le _,
    heatInRange_reset, planChecked_reset, timerInRange_reset, rfl, rfl, integratorInRange_reset, agesInRange_reset,
    setsBalanced_reset, invalidSetsAreZero_reset, unplannedIsInvalid_reset, rampBounded_reset⟩

end Sys2Proof.Machine
end

section
/-! PROOFS. The counts of a boundary: how many postings of a kind each stage makes, and which stages leave a kind alone
(R137, R145, R171). -/

namespace Sys2Proof.Machine

open Sys2Proof

/-! ### Counting postings (R171) -/

section Counting

variable {s t u : State} {f : Port → EventKind → Nat}

/-- The count of a kind at a port. -/
def State.count (s : State) (p : Port) (k : EventKind) : Nat := (s.events.get p).counts.get k

theorem raisedBy_le (n m : Nat) : raisedBy n m ≤ 255 := min_le_left _ _

theorem raisedBy_zero {n : Nat} (h : n ≤ 255) : raisedBy n 0 = n := min_eq_right h

theorem bump_raisedBy (n m : Nat) : bump (raisedBy n m) = raisedBy n (m + 1) := by
  unfold bump raisedBy
  omega

theorem raisedBy_raisedBy (n a b : Nat) : raisedBy (raisedBy n a) b = raisedBy n (a + b) := by
  unfold raisedBy
  omega

/-- The counts of one state are those of another, raised by a number of postings for each port and kind. -/
def Raises (s t : State) (f : Port → EventKind → Nat) : Prop := ∀ p k, t.count p k = raisedBy (s.count p k) (f p k)

/-- One posting under a condition: 1 for its kind at the ports named. -/
def postedTo (cond : Bool) (k : EventKind) (ps : List Port) (p : Port) (k' : EventKind) : Nat :=
  (cond && decide (p ∈ ps ∧ k' = k)).toNat

theorem Raises.congr {g : Port → EventKind → Nat} (h : Raises s t f) (hfg : ∀ p k, f p k = g p k) : Raises s t g :=
  fun p k => hfg p k ▸ h p k

theorem Raises.refl (h : CountsInRange s) : Raises s s fun _ _ => 0 := fun p k => (raisedBy_zero (h p k)).symm

theorem Raises.postIf (h : Raises s t f) (cond : Bool) (k : EventKind) (ps : List Port) :
    Raises s (t.postIf cond k ps) fun p k' => f p k' + postedTo cond k ps p k' := by
  intro p k'
  have hcount := h p k'
  unfold State.count at hcount ⊢
  rw [State.postIf_count, hcount, bump_raisedBy]
  unfold postedTo
  cases cond <;> by_cases hp : p ∈ ps ∧ k' = k <;> simp [hp]

theorem Raises.of_events (h : Raises s t f) (hevents : u.events = t.events) : Raises s u f := fun p k => by
  rw [State.count, hevents]
  exact h p k

theorem Raises.trans {g : Port → EventKind → Nat} (h : Raises s t f) (h' : Raises t u g) :
    Raises s u fun p k => f p k + g p k := fun p k => by
  rw [h' p k, h p k, raisedBy_raisedBy]

theorem Raises.inRange (h : Raises s t f) : CountsInRange t := fun p k => (h p k).trans_le (raisedBy_le _ _)

/-- Postings of other kinds leave a count. -/
theorem Postings.count_eq {ks : List EventKind} (h : Postings ks s.events t.events) (p : Port) {k : EventKind}
    (hk : k ∉ ks) : t.count p k = s.count p k :=
  h.count_other p hk

end Counting

/-! ### Which stages leave a kind alone -/

section Stages

variable (s : State) (p : Port) {k : EventKind}

theorem agedState_count (hk : k ∉ [.planApplied, .refresh, .expired]) : (agedState s).count p k = s.count p k :=
  (agedState_postings s).count_eq p hk

theorem decidedState_count (hk : k ≠ .stateChange) : (decidedState s).count p k = (agedState s).count p k :=
  (decideEngine_postings (agedState s)).count_eq p (by simpa using hk)

theorem heldState_count (hk : k ≠ .holdDropped) : (heldState s).count p k = (decidedState s).count p k :=
  (holdStep_postings (decidedState s)).count_eq p (by simpa using hk)

theorem heatedState_count (hk : k ∉ [.novalue, .heatSat, .heatState]) :
    (heatedState s).count p k = (heldState s).count p k :=
  (heatStep_postings (heldState s)).count_eq p hk

theorem makeBoundary_count (hk : k ∉ [.novalue, .shiftLong, .slipCut]) :
    (makeBoundary s).count p k = (heatedState s).count p k :=
  (apportionStep_postings (heatedState s)).count_eq p hk

/-- What the ageing has posted, no later stage posts again. -/
theorem makeBoundary_count_of_aged (hk : k ∈ [.planApplied, .refresh, .expired]) :
    (makeBoundary s).count p k = (agedState s).count p k := by
  simp only [List.mem_cons, List.not_mem_nil, or_false] at hk
  obtain rfl | rfl | rfl := hk <;>
    rw [makeBoundary_count s p (by simp), heatedState_count s p (by simp), heldState_count s p (by simp),
      decidedState_count s p (by simp)]

end Stages

/-! ### The sections that a boundary copies (R137) -/

section Copies

/-- A section after a boundary, field by field. -/
theorem Section.copied_eq {α : Type} (x : Section α) :
    x.copied = { staged := x.staged, live := if x.pending then some x.staged else x.live, pending := false } := by
  obtain ⟨staged, live, pending⟩ := x
  cases pending <;> rfl

/-- PLAN_APPLIED goes to every port once for each section copied. -/
def copyPostings (x : PlanStore) (p : Port) (k : EventKind) : Nat :=
  postedTo x.e.pending .planApplied allPorts p k + postedTo x.t.pending .planApplied allPorts p k +
  postedTo x.b.pending .planApplied allPorts p k + postedTo x.c.pending .planApplied allPorts p k

theorem copyPlan_raises {s : State} (h : CountsInRange s) : Raises s (copyPlan s) (copyPostings s.plan) :=
  (((((Raises.refl h).postIf _ _ _).postIf _ _ _).postIf _ _ _).postIf _ _ _).congr fun p k => by
    rw [Nat.zero_add]; rfl

theorem copyPostings_planApplied (x : PlanStore) (p : Port) :
    copyPostings x p .planApplied = x.e.pending.toNat + x.t.pending.toNat + x.b.pending.toNat + x.c.pending.toNat := by
  simp [copyPostings, postedTo, mem_allPorts]

theorem copyPostings_other (x : PlanStore) (p : Port) {k : EventKind} (hk : k ≠ .planApplied) :
    copyPostings x p k = 0 := by
  simp [copyPostings, postedTo, hk]

theorem makeBoundary_planApplied {s : State} (h : CountsInRange s) (p : Port) :
    (makeBoundary s).count p .planApplied =
      raisedBy (s.count p .planApplied)
        (s.plan.e.pending.toNat + s.plan.t.pending.toNat + s.plan.b.pending.toNat + s.plan.c.pending.toNat) := by
  have haged : (agedState s).count p .planApplied = (copyPlan (stampBoundary s)).count p .planApplied :=
    ((ageDemand_postings _).count_eq p (by simp)).trans ((ageReports_postings _).count_eq p (by simp))
  rw [makeBoundary_count_of_aged s p (by simp), haged, ← copyPostings_planApplied]
  exact copyPlan_raises (s := stampBoundary s) h p .planApplied

end Copies

/-- Settles O10. -/
theorem boundaryCopiesPendingSections : Obligations.BoundaryCopiesPendingSections := by
  intro s
  rw [makeBoundary_plan]
  exact ⟨Section.copied_eq s.plan.e, Section.copied_eq s.plan.t, Section.copied_eq s.plan.b, Section.copied_eq s.plan.c,
    makeBoundary_planApplied⟩

/-! ### The engine state (R144, R145) -/

section Engine

variable {s : State} {x : ReportState}

theorem isUsable_iff : x.isUsable = true ↔ InUse x := by
  cases x <;> simp [ReportState.isUsable, InUse]

theorem isUsable_eq_false_iff : x.isUsable = false ↔ ¬InUse x := by
  rw [← isUsable_iff, Bool.not_eq_true]

/-- The engine state of a boundary, by the sections that are live after its copies and the latched AXLES (R144). -/
theorem makeBoundary_engine_eq (s : State) :
    (makeBoundary s).app.engine =
      engineOf ((makeBoundary s).plan.e.live.isSome && (makeBoundary s).plan.t.live.isSome &&
        (makeBoundary s).plan.b.live.isSome && (makeBoundary s).plan.c.live.isSome)
        (makeBoundary s).latched.axles.state.isUsable := by
  rw [makeBoundary_engine, makeBoundary_latched, makeBoundary_plan, ← PlanStore.allLive_isSome]
  rfl

theorem decideEngine_stateChange (s : State) (p : Port) :
    (decideEngine s).count p .stateChange =
      if engineOf s.plan.allLive.isSome s.latched.axles.state.isUsable = s.app.engine then s.count p .stateChange
      else bump (s.count p .stateChange) := by
  refine (State.postIf_count ..).trans ?_
  by_cases hsame : engineOf s.plan.allLive.isSome s.latched.axles.state.isUsable = s.app.engine <;>
    simp [hsame, mem_allPorts, State.count]

theorem decidedState_stateChange (s : State) (p : Port) :
    (decidedState s).count p .stateChange =
      if boundaryEngine s = s.app.engine then s.count p .stateChange else bump (s.count p .stateChange) := by
  rw [decidedState, decideEngine_stateChange, agedState_plan, agedState_latched, agedState_app,
    agedState_count s p (by simp)]
  rfl

theorem makeBoundary_stateChange (s : State) (p : Port) :
    (makeBoundary s).count p .stateChange =
      if boundaryEngine s = s.app.engine then s.count p .stateChange else bump (s.count p .stateChange) := by
  rw [makeBoundary_count s p (by simp), heatedState_count s p (by simp), heldState_count s p (by simp),
    decidedState_stateChange]

end Engine

/-- Settles O12. -/
theorem boundaryDecidesEngineState : Obligations.BoundaryDecidesEngineState := by
  intro s t allLive
  have hengine : t.app.engine = engineOf allLive t.latched.axles.state.isUsable := makeBoundary_engine_eq s
  refine ⟨fun hnone => ?_, fun hall huse => ?_, fun hall huse => ?_, fun p => ?_⟩
  · rw [hengine, hnone]; rfl
  · rw [hengine, hall, isUsable_iff.mpr huse]; rfl
  · rw [hengine, hall, isUsable_eq_false_iff.mpr huse]; rfl
  · rw [makeBoundary_engine]
    exact makeBoundary_stateChange s p

/-! ### Ageing (R41, R63) -/

section Ageing

variable {α : Type} (zero : α) (soft hard : Nat)

theorem PlanStore.ages_eq (x : PlanStore) : x.ages = agesOf x.c.live := by
  unfold PlanStore.ages
  cases x.c.live <;> rfl

/-- A record aged, by its state and its age. -/
theorem Report.aged_agedTo (r : Report α) : r.AgedTo zero soft hard (r.aged zero soft hard).value := by
  obtain ⟨state, age, mark, fields⟩ := r
  refine ⟨fun hidle => ?_, fun huse => ⟨fun hexpired => ?_, fun hlive haging => ?_, fun hlive hfresh => ?_⟩⟩
  · obtain rfl | rfl := hidle <;> rfl
  all_goals
    have husable : state.isUsable = true := isUsable_iff.mpr huse
    simp only [Report.aged, husable, Bool.not_true, Bool.false_eq_true, if_false]
  · rw [if_pos hexpired]
  · rw [if_neg hlive.not_ge, if_pos haging]
  · rw [if_neg hlive.not_ge, if_neg hfresh.not_ge]

theorem isUsable_eq (x : ReportState) : x.isUsable = (decide (x = .fresh) || decide (x = .aging)) := by
  cases x <;> rfl

theorem Report.aged_expired (r : Report α) : (r.aged zero soft hard).expired = r.expires hard := by
  unfold Report.aged Report.expires
  rw [← isUsable_eq]
  cases r.state.isUsable with
  | false => rfl
  | true =>
    by_cases hhard : hard ≤ r.age + 1
    · simp [hhard]
    · by_cases hsoft : soft ≤ r.age + 1 <;> simp [hhard, hsoft]

theorem Report.aged_refresh (r : Report α) : (r.aged zero soft hard).refresh = r.refreshes soft hard := by
  unfold Report.aged Report.refreshes
  rw [← isUsable_eq]
  cases r.state.isUsable with
  | false => rfl
  | true =>
    by_cases hhard : hard ≤ r.age + 1
    · simp [hhard, hhard.not_gt]
    · by_cases hsoft : soft ≤ r.age + 1 <;> simp [hhard, hsoft, not_le.mp hhard]

theorem ageEntry_agedTo (x : Option DemandEntry) : EntryAgedTo soft hard x (ageEntry soft hard x).value := by
  cases x with
  | none => rfl
  | some entry =>
    refine ⟨fun hexpired => ?_, fun hlive haging => ?_, fun hlive hfresh => ?_⟩ <;> simp only [ageEntry]
    · rw [if_pos hexpired]
    · rw [if_neg hlive.not_ge, if_pos haging]
    · rw [if_neg hlive.not_ge, if_neg hfresh.not_ge]

theorem ageEntry_expired (x : Option DemandEntry) : (ageEntry soft hard x).expired = entryExpires hard x := by
  cases x with
  | none => rfl
  | some entry =>
    by_cases hhard : hard ≤ entry.age + 1
    · simp [ageEntry, entryExpires, hhard]
    · by_cases hsoft : soft ≤ entry.age + 1 <;> simp [ageEntry, entryExpires, hhard, hsoft]

theorem ageEntry_refresh (x : Option DemandEntry) : (ageEntry soft hard x).refresh = entryRefreshes soft hard x := by
  cases x with
  | none => rfl
  | some entry =>
    by_cases hhard : hard ≤ entry.age + 1
    · simp [ageEntry, entryRefreshes, hhard, hhard.not_gt]
    · by_cases hsoft : soft ≤ entry.age + 1 <;> simp [ageEntry, entryRefreshes, hhard, hsoft, not_le.mp hhard]

end Ageing

/-- Settles O13. -/
theorem boundaryAgesReportsAndDemand : Obligations.BoundaryAgesReportsAndDemand := by
  intro s t ages
  have hages : ages = s.plan.copied.ages := by
    rw [PlanStore.ages_eq]; exact congrArg (fun x => agesOf x.c.live) (makeBoundary_plan s)
  have hreports : t.reports = (agedState s).reports := makeBoundary_reports s
  rw [hages, hreports, makeBoundary_latched, makeBoundary_demand, heldState_pedal, heldState_stalk, agedState_reports]
  exact ⟨Report.aged_agedTo _ _ _ _, Report.aged_agedTo _ _ _ _, Report.aged_agedTo _ _ _ _, rfl, rfl,
    ageEntry_agedTo _ _ _, ageEntry_agedTo _ _ _⟩

section AgeingPosts

variable {s : State}

/-- What the ageing of the reports posts (R63). -/
def reportPostings (ages : Nat × Nat) (r : Reports) (p : Port) (k : EventKind) : Nat :=
  postedTo (r.exhaust.expires ages.2) .expired [.e, .c] p k +
  postedTo (r.exhaust.refreshes ages.1 ages.2) .refresh [.e] p k +
  postedTo (r.trans.expires ages.2) .expired [.t, .c] p k +
  postedTo (r.trans.refreshes ages.1 ages.2) .refresh [.t] p k +
  postedTo (r.axles.expires ages.2) .expired [.b, .c] p k +
  postedTo (r.axles.refreshes ages.1 ages.2) .refresh [.b] p k

/-- What the ageing of the demand entries posts (R41). -/
def demandPostings (ages : Nat × Nat) (d : Demand) (p : Port) (k : EventKind) : Nat :=
  postedTo (entryExpires ages.2 d.pedal) .expired [.b, .c] p k +
  postedTo (entryRefreshes ages.1 ages.2 d.pedal) .refresh [.b] p k +
  postedTo (entryExpires ages.2 d.stalk) .expired [.c] p k +
  postedTo (entryRefreshes ages.1 ages.2 d.stalk) .refresh [.c] p k

theorem ageReports_raises (h : CountsInRange s) :
    Raises s (ageReports s) (reportPostings s.plan.ages s.reports) :=
  (((((((Raises.refl h).postIf _ _ _).postIf _ _ _).postIf _ _ _).postIf _ _ _).postIf _ _ _).postIf _ _ _).congr
    fun p k => by
      rw [Nat.zero_add, Report.aged_expired, Report.aged_expired, Report.aged_expired, Report.aged_refresh,
        Report.aged_refresh, Report.aged_refresh]
      rfl

theorem ageDemand_raises (h : CountsInRange s) :
    Raises s (ageDemand s) (demandPostings s.plan.ages s.demand) :=
  (((((Raises.refl h).postIf _ _ _).postIf _ _ _).postIf _ _ _).postIf _ _ _).congr fun p k => by
    rw [Nat.zero_add, ageEntry_expired, ageEntry_expired, ageEntry_refresh, ageEntry_refresh]
    rfl

theorem agedState_raises (h : CountsInRange s) :
    Raises s (agedState s) fun p k => copyPostings s.plan p k + reportPostings s.plan.copied.ages s.reports p k +
      demandPostings s.plan.copied.ages s.demand p k := by
  have hcopied : Raises s (takePeriod (copyPlan (stampBoundary s))) (copyPostings s.plan) :=
    (copyPlan_raises (s := stampBoundary s) h).of_events rfl
  have hreports := ageReports_raises hcopied.inRange
  have hdemand := ageDemand_raises (hcopied.trans hreports).inRange
  refine ((hcopied.trans hreports).trans hdemand).congr fun p k => ?_
  simp

/-- The EXPIRED and REFRESH of a boundary are those of its ageing. -/
theorem makeBoundary_ageing_count (h : CountsInRange s) (p : Port) {k : EventKind} (hk : k = .expired ∨ k = .refresh) :
    (makeBoundary s).count p k = raisedBy (s.count p k)
      (reportPostings s.plan.copied.ages s.reports p k + demandPostings s.plan.copied.ages s.demand p k) := by
  have hcopy : copyPostings s.plan p k = 0 := copyPostings_other _ _ (by obtain rfl | rfl := hk <;> simp)
  have haged := agedState_raises h p k
  simp only [hcopy, Nat.zero_add] at haged
  rw [← haged]
  exact makeBoundary_count_of_aged s p (by obtain rfl | rfl := hk <;> simp)

end AgeingPosts

/-- Settles O14. -/
theorem ageingPostsRefreshAndExpired : Obligations.AgeingPostsRefreshAndExpired := by
  intro s h t ages e r a pedal stalk count
  have hages : ages = s.plan.copied.ages := by
    rw [PlanStore.ages_eq]; exact congrArg (fun x => agesOf x.c.live) (makeBoundary_plan s)
  have hcount : ∀ p k, (k = .expired ∨ k = .refresh) → count t p k = raisedBy (count s p k)
      (reportPostings ages s.reports p k + demandPostings ages s.demand p k) := fun p k hk =>
    hages ▸ makeBoundary_ageing_count h p hk
  refine ⟨?_, ?_, ?_, ?_, ?_, ?_, ?_, ?_⟩ <;> rw [hcount _ _ (by simp)] <;>
    simp [reportPostings, demandPostings, postedTo, e, r, a, pedal, stalk, Nat.add_assoc]

end Sys2Proof.Machine
end

section
/-! PROOFS. A boundary's speed-hold loop, heat accounts and evaluator (chapters 3, 4 and 6), and what it leaves. -/

namespace Sys2Proof.Machine

open Sys2Proof

/-- Settles O22. -/
theorem boundaryLeavesTheRest : Obligations.BoundaryLeavesTheRest := by
  intro s t
  have hcount : ∀ p k, k = .published ∨ k = .shortfall ∨ k = .syncLost ∨ k = .syncEarly ∨ k = .massClamp ∨ k = .seedWanted →
      (t.events.get p).counts.get k = (s.events.get p).counts.get k := fun p k hk =>
    (makeBoundary_postings s).count_other p (by obtain rfl | rfl | rfl | rfl | rfl | rfl := hk <;> decide)
  exact ⟨makeBoundary_timer_index s, makeBoundary_timer_syncPrev s, makeBoundary_timer_syncEdge s,
    makeBoundary_published s, makeBoundary_prevE s, makeBoundary_prevR s, makeBoundary_runCount s,
    makeBoundary_runPosted s, makeBoundary_ports s, (makeBoundary_postings s).mask, hcount, makeBoundary_seeded s,
    makeBoundary_resetHeld s, makeBoundary_pending s, makeBoundary_tieDraws s⟩

/-! ### Rounding toward zero, and up -/

section Rounding

theorem roundDiv_towardZero_eq_tdiv (n : Int) {d : Int} (hd : 0 < d) : roundDiv .towardZero n d = Int.tdiv n d := by
  rw [Int.tdiv_eq_ediv, Int.sign_eq_one_of_pos hd]
  simp only [roundDiv, ← Int.dvd_iff_emod_eq_zero]
  by_cases hwhole : d ∣ n <;> by_cases hn : 0 ≤ n <;> simp [hwhole, hn]

theorem roundDiv_up_eq (n : Int) {d : Int} (hd : 0 < d) : roundDiv .up n d = -(-n / d) := by
  obtain ⟨hlow, hhigh⟩ := roundDiv_up_bounds n hd
  have hquotient : -n / d = -roundDiv .up n d := by
    rw [Int.ediv_eq_iff_of_pos hd]
    constructor <;> linarith
  rw [hquotient, neg_neg]

end Rounding

/-! ### The speed-hold loop (R46 to R51, R57) -/

section Hold

variable {s : State}

theorem holdStep_of_disabled (h : s.demand.holdEnabled = false) : holdStep s = { s with demand := s.demand.dropHold } := by
  simp [holdStep, h]

theorem holdStep_of_unplanned (h : s.app.engine = .unplanned) : holdStep s = { s with demand := s.demand.dropHold } := by
  unfold holdStep
  rw [h]
  split <;> rfl

theorem holdStep_of_fallback (h : s.demand.holdEnabled = true) (hengine : s.app.engine = .fallback) :
    holdStep s = { s.post .holdDropped [.c] with demand := { s.demand.dropHold with holdEnabled := false } } := by
  unfold holdStep
  rw [h, hengine]
  rfl

theorem holdStep_of_running (h : s.demand.holdEnabled = true) (hengine : s.app.engine = .running) {c : PlanC}
    (hc : s.plan.c.live = some c) :
    holdStep s = { s with demand := (s.demand.runLoop c s.latched.axles.fields.speed (s.timer.delta.getD 0)
      s.app.published.summary.shortfall) } := by
  unfold holdStep
  rw [h, hengine, hc]
  rfl

/-- The four cases of the loop, by HOLD_SET and the engine state. -/
theorem holdStep_holdDropped (s : State) (p : Port) :
    (holdStep s).count p .holdDropped =
      if p = .c ∧ s.demand.holdEnabled = true ∧ s.app.engine = .fallback then bump (s.count p .holdDropped)
      else s.count p .holdDropped := by
  cases henabled : s.demand.holdEnabled with
  | false => rw [holdStep_of_disabled henabled]; simp; rfl
  | true =>
    by_cases hfallback : s.app.engine = .fallback
    · rw [holdStep_of_fallback henabled hfallback]
      refine (State.post_count ..).trans ?_
      simp [hfallback, State.count]
    · have hpost : (holdStep s).events = s.events := by
        unfold holdStep
        rw [henabled]
        cases hengine : s.app.engine with
        | unplanned => rfl
        | fallback => exact absurd hengine hfallback
        | running => cases s.plan.c.live <;> rfl
      rw [State.count, hpost]
      simp [hfallback, State.count]

@[simp] theorem decidedState_enabled (s : State) : (decidedState s).demand.holdEnabled = s.demand.holdEnabled := by
  simp [agedState_demand]
@[simp] theorem decidedState_setSpeed (s : State) : (decidedState s).demand.setSpeed = s.demand.setSpeed := by
  simp [agedState_demand]
@[simp] theorem decidedState_integrator (s : State) : (decidedState s).demand.integrator = s.demand.integrator := by
  simp [agedState_demand]

@[simp] theorem decidedState_delta (s : State) : (decidedState s).timer.delta = some s.timer.counter := by
  rw [decidedState_timer, Timer.takePeriod_delta]; rfl

theorem holdStep_setSpeed (s : State) : (holdStep s).demand.setSpeed = s.demand.setSpeed := by
  unfold holdStep
  split
  · rfl
  · split <;> rfl

theorem clampInt_zero_toNat {hi : Int} (hhi : 0 ≤ hi) (n : Int) : ((clampInt 0 hi n).toNat : Int) = max 0 (min hi n) :=
  Int.toNat_of_nonneg (clampInt_mem hhi n).1

/-- The integrator's step (R48 to R50), in integers. -/
theorem nextIntegrator_eq (ki holdMax delta : Nat) (error : Int) (frozen : Bool) (i : Nat) :
    (nextIntegrator ki holdMax delta error frozen i : Int) =
      max 0 (min ((holdMax : Int) * 1024)
        (if frozen then (i : Int) else i + Int.tdiv ((ki : Int) * error * delta * 1024) 10000)) := by
  rw [nextIntegrator, roundDiv_towardZero_eq_tdiv _ (by decide), clampInt_zero_toNat (Int.natCast_nonneg _)]
  push_cast
  rfl

/-- The output (R51), in integers. -/
theorem holdOutput_eq (kp holdMax : Nat) (error : Int) (i : Nat) :
    (holdOutput kp holdMax error i : Int) = max 0 (min (holdMax : Int) ((kp : Int) * error + (i : Int) / 1024)) := by
  rw [holdOutput, clampInt_zero_toNat (Int.natCast_nonneg _)]
  rfl

theorem heldState_holdDropped (s : State) (p : Port) :
    (heldState s).count p .holdDropped =
      if p = .c ∧ s.demand.holdEnabled = true ∧ boundaryEngine s = .fallback then bump (s.count p .holdDropped)
      else s.count p .holdDropped := by
  rw [heldState, holdStep_holdDropped, decidedState_enabled, decidedState_app, decidedState_count s p (by simp),
    agedState_count s p (by simp)]

/-- RUNNING has section C live. -/
theorem copied_c_live_of_running (h : boundaryEngine s = .running) : ∃ c, s.plan.copied.c.live = some c := by
  have hall : s.plan.copied.allLive.isSome = true :=
    Option.isSome_iff_ne_none.mpr fun hnone => by simp [boundaryEngine_eq_unplanned_iff.mpr hnone] at h
  rw [PlanStore.allLive_isSome, Bool.and_eq_true] at hall
  exact Option.isSome_iff_exists.mp hall.2

end Hold

/-- Settles O15. -/
theorem boundaryRunsSpeedHold : Obligations.BoundaryRunsSpeedHold := by
  intro s t
  have hdemand : t.demand = (holdStep (decidedState s)).demand := makeBoundary_demand s
  have hengine : t.app.engine = boundaryEngine s := makeBoundary_engine s
  have hdecided : (decidedState s).app.engine = boundaryEngine s := by rw [decidedState_app]
  rw [hdemand, hengine]
  refine ⟨?speed, fun hidle => ?idle, fun henabled hfallback => ?fallback, fun henabled hrunning => ?running,
    fun p => ?posted⟩
  case speed => rw [holdStep_setSpeed, decidedState_setSpeed]
  case idle =>
    have hdrop : holdStep (decidedState s) =
        { decidedState s with demand := (decidedState s).demand.dropHold } := by
      obtain hdisabled | hunplanned := hidle
      · exact holdStep_of_disabled (by rw [decidedState_enabled, hdisabled])
      · exact holdStep_of_unplanned (hdecided.trans hunplanned)
    rw [hdrop]
    exact ⟨rfl, rfl, decidedState_enabled s⟩
  case fallback =>
    rw [holdStep_of_fallback (by rw [decidedState_enabled, henabled]) (hdecided.trans hfallback)]
    exact ⟨rfl, rfl, rfl⟩
  case running =>
    obtain ⟨c, hc⟩ := copied_c_live_of_running hrunning
    rw [holdStep_of_running (by rw [decidedState_enabled, henabled]) (hdecided.trans hrunning)
      (by rw [decidedState_plan]; exact hc)]
    refine ⟨by rw [← henabled]; exact decidedState_enabled s, c, by rw [makeBoundary_plan]; exact hc, ?_, _, rfl, ?_⟩
    · simp only [Demand.runLoop, nextIntegrator_eq, decidedState_setSpeed, decidedState_integrator, decidedState_delta,
        decidedState_latched, decidedState_app, Option.getD_some, decide_eq_true_eq, makeBoundary_latched, t]
    · simp only [Demand.runLoop, holdOutput_eq, decidedState_setSpeed, decidedState_latched, makeBoundary_latched, t]
  case posted =>
    refine Eq.trans ?_ (heldState_holdDropped s p)
    exact (makeBoundary_count s p (by simp)).trans (heatedState_count s p (by simp))

end Sys2Proof.Machine
end

section
/-! PROOFS. The conversion unit: torque and pressure to force, force to actuator units, deceleration to force (chapter 2). -/

namespace Sys2Proof.Machine

open Sys2Proof

/-! ### Forces (R24, R26 to R28, R31) -/

section Forces

variable {q : Int}

theorem forceOf_of_over (h : 400000 < q) : forceOf q = .novalue := if_pos h

theorem forceOf_of_within (h : q ≤ 400000) : forceOf q = .newtons q.toNat := if_neg h.not_gt

/-- The three answers of a rounded quotient. -/
theorem forceOf_cases (q : Int) :
    (400000 < q → forceOf q = .novalue) ∧ (q < 0 → forceOf q = .newtons 0) ∧
    (0 ≤ q → q ≤ 400000 → ∃ n : Nat, forceOf q = .newtons n ∧ (n : Int) = q) := by
  refine ⟨forceOf_of_over, fun hneg => ?_, fun hnonneg hle => ⟨q.toNat, forceOf_of_within hle, Int.toNat_of_nonneg hnonneg⟩⟩
  rw [forceOf_of_within (by omega), Int.toNat_of_nonpos hneg.le]

theorem exhaustForce_of_gear (m : Rounding) (torque : Int) {g : Nat} (a r : Nat) (hg : g ≠ 0) :
    exhaustForce m torque g a r = forceOf (roundDiv m (torque * g * a * 1000) (65536 * r)) := if_neg hg

theorem pressureForce_of_over {p k : Nat} (h : 400000 < p * k) : pressureForce p k = .novalue :=
  forceOf_of_over (by exact_mod_cast h)

theorem pressureForce_of_within {p k : Nat} (h : p * k ≤ 400000) : pressureForce p k = .newtons (p * k) :=
  forceOf_of_within (by exact_mod_cast h)

end Forces

/-- Settles O26. -/
theorem torqueBecomesForce : Obligations.TorqueBecomesForce := by
  intro m torque g a r _
  refine ⟨forceOf_cases _, fun hg => by rw [hg]; rfl, fun hg => ?_⟩
  rw [exhaustForce_of_gear m torque a r hg]
  exact forceOf_cases _

/-! ### Grants in actuator units (R29, R32) -/

section Units

/-- A quotient toward zero held at a bound asks for no more, and below the bound for the most that does not. -/
theorem min_div_bounds (bound n : Nat) {d : Nat} (hd : 0 < d) :
    min bound (n / d) ≤ bound ∧ min bound (n / d) * d ≤ n ∧
    (min bound (n / d) < bound → n < (min bound (n / d) + 1) * d) := by
  refine ⟨min_le_left _ _, (Nat.mul_le_mul_right d (min_le_right _ _)).trans (Nat.div_mul_le_self n d), fun hbelow => ?_⟩
  rw [min_eq_right (by omega), mul_comm]
  exact Nat.lt_mul_div_succ n hd

theorem roundDiv_up_toNat (s : Nat) {k : Nat} (hk : 0 < k) :
    s ≤ (roundDiv .up (s : Int) k).toNat * k ∧
    (0 < (roundDiv .up (s : Int) k).toNat → ((roundDiv .up (s : Int) k).toNat - 1) * k < s) := by
  have hk' : (0 : Int) < k := by exact_mod_cast hk
  obtain ⟨hlow, hhigh⟩ := roundDiv_up_bounds (s : Int) hk'
  obtain ⟨n, hn⟩ := Int.eq_ofNat_of_zero_le (roundDiv_nonneg .up (Int.natCast_nonneg s) hk'.le)
  rw [hn] at hlow hhigh ⊢
  rw [Int.toNat_natCast]
  refine ⟨by exact_mod_cast hhigh, fun hpos => ?_⟩
  have hpred : (((n - 1 : Nat) : Int)) = n - 1 := by omega
  rw [← hpred] at hlow
  exact_mod_cast hlow

/-- The least pressure that gives at least the force, held at 1200. -/
theorem pressureGrant_bounds (s : Nat) {k : Nat} (hk : 0 < k) :
    pressureGrant s k ≤ 1200 ∧ (1200 * k < s → pressureGrant s k = 1200) ∧
    (s ≤ 1200 * k → s ≤ pressureGrant s k * k) ∧ (0 < pressureGrant s k → (pressureGrant s k - 1) * k < s) := by
  obtain ⟨henough, hleast⟩ := roundDiv_up_toNat s hk
  unfold pressureGrant
  generalize (roundDiv .up (s : Int) k).toNat = n at henough hleast
  refine ⟨min_le_left _ _, fun hover => ?_, fun hwithin => ?_, fun hpos => ?_⟩
  · refine min_eq_left ?_
    by_contra hbelow
    have : n * k ≤ 1200 * k := Nat.mul_le_mul_right k (by omega)
    omega
  · obtain h | h := Nat.le_total 1200 n
    · rw [min_eq_left h]; exact hwithin
    · rw [min_eq_right h]; exact henough
  · have hn := hleast (hpos.trans_le (min_le_right _ _))
    have hmono : (min 1200 n - 1) * k ≤ (n - 1) * k := Nat.mul_le_mul_right k (by omega)
    omega

end Units

/-- Settles O27. -/
theorem unitGrantsStayOnTheirSide : Obligations.UnitGrantsStayOnTheirSide := by
  refine ⟨fun f a r ha => min_div_bounds _ _ (by positivity), fun f g a r ha hg => ?_, fun f a r => rfl,
    fun s k hk => pressureGrant_bounds s hk⟩
  rw [exhaustTorque, if_neg hg]
  have hg' : 0 < g := Nat.pos_of_ne_zero hg
  exact min_div_bounds _ _ (by positivity)

/-! ### The demand (R33, R44, R55) -/

section Demand

/-- Of two dividends that are not negative, the greater has the greater rounded quotient. -/
theorem roundDiv_mono (m : Rounding) {n n' d : Int} (hd : 0 < d) (hn : 0 ≤ n) (h : n ≤ n') :
    roundDiv m n d ≤ roundDiv m n' d := by
  obtain hsame | hless := (Int.ediv_le_ediv hd h).eq_or_lt
  · have hrest : n % d ≤ n' % d := by rw [Int.emod_def, Int.emod_def, hsame]; omega
    have hlow := Int.emod_nonneg n hd.ne'
    unfold roundDiv
    cases m <;> simp only [hsame] <;> repeat' split
    all_goals omega
  · calc roundDiv m n d ≤ n / d + 1 := (roundDiv_between m n d).2
      _ ≤ n' / d := hless
      _ ≤ roundDiv m n' d := (roundDiv_between m n' d).1

theorem demandForce_eq (m : Rounding) (mass a : Nat) :
    (demandForce m mass a : Int) = roundDiv m ((mass * a : Nat) : Int) 1000 :=
  Int.toNat_of_nonneg (roundDiv_nonneg m (Int.natCast_nonneg _) (by decide))

theorem demandForce_mono (m : Rounding) (mass : Nat) {a a' : Nat} (h : a ≤ a') :
    demandForce m mass a ≤ demandForce m mass a' := by
  have hmass : ((mass * a : Nat) : Int) ≤ (mass * a' : Nat) := by exact_mod_cast Nat.mul_le_mul_left mass h
  have hforce := roundDiv_mono m (d := 1000) (by decide) (Int.natCast_nonneg _) hmass
  rw [← demandForce_eq, ← demandForce_eq] at hforce
  exact_mod_cast hforce

/-- 32,000 kg at 10 m/s^2 make 320,000 N. -/
theorem demandForce_le (m : Rounding) {mass a : Nat} (hmass : mass ≤ 32000) (ha : a ≤ 10000) :
    demandForce m mass a ≤ 320000 := by
  have hproduct : mass * a ≤ 320000 * 1000 := (Nat.mul_le_mul hmass ha).trans (by decide)
  have hforce := (roundDiv_mem_Icc m (d := 1000) (lo := 0) (hi := 320000) (by decide) (Int.natCast_nonneg _)
    (by exact_mod_cast hproduct)).2
  rw [← demandForce_eq] at hforce
  exact_mod_cast hforce

theorem stageDeceleration_le {x : Stalk} {bound : Nat} (h1 : x.stage1 ≤ bound) (h2 : x.stage2 ≤ bound)
    (h3 : x.stage3 ≤ bound) (h4 : x.stage4 ≤ bound) (h5 : x.stage5 ≤ bound) (n : Nat) :
    stageDeceleration x n ≤ bound := by
  unfold stageDeceleration
  split
  · exact Nat.zero_le _
  all_goals assumption

theorem entryValue_le {x : Option DemandEntry} {bound : Nat} (h : ∀ entry, x = some entry → entry.value ≤ bound) :
    entryValue x ≤ bound := by
  cases x with
  | none => exact Nat.zero_le _
  | some entry => exact h entry rfl

end Demand

/-- Settles O29. -/
theorem resolvedDemandsAreOrdered : Obligations.ResolvedDemandsAreOrdered := by
  refine ⟨demandForce_eq, fun x => ⟨rfl, rfl, rfl, rfl, rfl, rfl⟩, fun c mass x => ?_,
    fun c mass x hmass hpedal hhold h1 h2 h3 h4 h5 => ⟨demandForce_mono _ _ (le_max_left _ _), demandForce_le _ hmass ?_⟩⟩
  · intro value any
    have hvalue : value = entryValue := by funext y; cases y <;> rfl
    simp only [any, hvalue]
    exact ⟨rfl, rfl, rfl⟩
  · have hpedal' : entryValue x.pedal ≤ 10000 := entryValue_le hpedal
    have hhold' : x.hold.getD 0 ≤ 4000 := by
      cases hx : x.hold with
      | none => exact Nat.zero_le _
      | some v => exact hhold v hx
    have hstalk : stageDeceleration c.stalk (entryValue x.stalk) ≤ 4000 := stageDeceleration_le h1 h2 h3 h4 h5 _
    exact max_le (max_le hpedal' (hhold'.trans (by decide))) (hstalk.trans (by decide))

end Sys2Proof.Machine
end

section
/-! PROOFS. A boundary's heat accounts and grades (chapter 6), and the evaluator's shift and slip state (chapter 4). -/

namespace Sys2Proof.Machine

open Sys2Proof

/-! ### The force and the speed of an interval (R111, R112) -/

section Interval

variable {s : State} {b : PlanB} {i : Axle} {kpa : Nat}

theorem nextLastSpeed_of_use (h : InUse s.latched.axles.state) : nextLastSpeed s = s.latched.axles.fields.speed :=
  if_pos (isUsable_iff.mpr h)

theorem nextLastSpeed_of_no_use (h : ¬InUse s.latched.axles.state) : nextLastSpeed s = s.heat.lastSpeed :=
  if_neg (isUsable_iff.not.mpr h)

theorem heatSpeed_of_use (h : InUse s.latched.axles.state) : heatSpeed s = s.latched.axles.fields.speed :=
  if_pos (isUsable_iff.mpr h)

theorem heatSpeed_of_no_use (h : ¬InUse s.latched.axles.state) :
    (∀ c, s.plan.c.live = some c → heatSpeed s = max s.heat.lastSpeed c.fallbackSpeed) ∧
    (s.plan.c.live = none → heatSpeed s = s.heat.lastSpeed) := by
  unfold heatSpeed
  rw [if_neg (isUsable_iff.not.mpr h)]
  exact ⟨fun c hc => by rw [hc], fun hc => by rw [hc]⟩

theorem serviceAchieved_of_use {latched : Reports} (h : InUse latched.axles.state)
    (hkpa : (latched.axles.fields.axle.get i).achieved = some kpa) :
    serviceAchieved latched b i = some (pressureForce kpa (b.axles.get i).gain) := by
  rw [serviceAchieved, if_pos (isUsable_iff.mpr h), hkpa]
  rfl

theorem serviceAchieved_of_absent {latched : Reports}
    (h : ¬InUse latched.axles.state ∨ (latched.axles.fields.axle.get i).achieved = none) :
    serviceAchieved latched b i = none := by
  unfold serviceAchieved
  obtain hout | hnone := h
  · exact if_neg (isUsable_iff.not.mpr hout)
  · rw [hnone]
    split <;> rfl

/-- A fresh achieved force within F_MAX is the force. -/
theorem heatForce_of_achieved (h : InUse s.latched.axles.state)
    (hkpa : (s.latched.axles.fields.axle.get i).achieved = some kpa) (hwithin : kpa * (b.axles.get i).gain ≤ 400000) :
    heatForce s b i = kpa * (b.axles.get i).gain := by
  rw [heatForce, serviceAchieved_of_use h hkpa, pressureForce_of_within hwithin]
  rfl

/-- Otherwise it is the published grant. -/
theorem heatForce_of_grant
    (h : ¬InUse s.latched.axles.state ∨ (s.latched.axles.fields.axle.get i).achieved = none ∨
      ∃ kpa, (s.latched.axles.fields.axle.get i).achieved = some kpa ∧ 400000 < kpa * (b.axles.get i).gain) :
    heatForce s b i = (s.app.published.service.get i).grantN := by
  by_cases habsent : ¬InUse s.latched.axles.state ∨ (s.latched.axles.fields.axle.get i).achieved = none
  · rw [heatForce, serviceAchieved_of_absent habsent]
    rfl
  · obtain ⟨huse, _⟩ := not_or.mp habsent
    obtain ⟨kpa, hkpa, hover⟩ := (h.resolve_left huse).resolve_left (not_or.mp habsent).2
    rw [heatForce, serviceAchieved_of_use (not_not.mp huse) hkpa, pressureForce_of_over hover]
    rfl

theorem heatStep_lastSpeed (s : State) : (heatStep s).heat.lastSpeed = nextLastSpeed s := by
  unfold heatStep
  split <;> rfl

end Interval

/-! ### One step of an account (R113 to R115) -/

section Account

/-- The rise, as the rounded-up quotient of integers. -/
theorem heatRise_eq (f v delta : Nat) {cTh : Nat} (h : 0 < cTh) :
    heatRise f v delta cTh =
      -(-((f * v * delta * 65536 : Nat) : Int) / ((36 * 10000 * cTh : Nat) : Int)) :=
  roundDiv_up_eq _ (by exact_mod_cast Nat.mul_pos (by decide) h)

theorem heatCooling_eq (temp ambient : Int) (lambda delta : Nat) :
    heatCooling temp ambient lambda delta =
      if ambient < temp then (temp - ambient) * lambda * delta / 100000000 else 0 := by
  simp only [heatCooling, roundDiv_down]

/-- The temperature of a step before the ceiling. -/
def rawTemp (ax : AxlePlan) (f v delta : Nat) (ambient : Int) (a : HeatAccount) : Int :=
  heatBeforeCeiling a.temp ambient (heatRise f v delta ax.cTh) (heatCooling a.temp ambient ax.lambda delta)

/-- A step holds its temperature to the ceiling, sets the mark above it, clears it below it, and grades. -/
theorem stepAccount_account (b : PlanB) (ax : AxlePlan) (f v delta : Nat) (ambient : Int) (a : HeatAccount) :
    let raw := rawTemp ax f v delta ambient a
    let new := (stepAccount b ax f v delta ambient a).account
    new.temp = min raw (900 * 65536) ∧ (900 * 65536 < raw → new.sat = true) ∧ (raw < 900 * 65536 → new.sat = false) ∧
    (raw = 900 * 65536 → new.sat = a.sat) ∧ new.seeded = a.seeded ∧ new.state = gradedState b new.temp a.state := by
  intro raw new
  have hsat : new.sat = if 900 * 65536 < raw then true else if raw < 900 * 65536 then false else a.sat := rfl
  refine ⟨rfl, fun h => ?_, fun h => ?_, fun h => ?_, rfl, rfl⟩ <;> rw [hsat]
  · exact if_pos h
  · rw [if_neg h.not_gt, if_pos h]
  · rw [if_neg h.not_gt, if_neg h.not_lt]

/-- HEAT_SAT is posted where the mark is newly set. -/
theorem stepAccount_postsSat (b : PlanB) (ax : AxlePlan) (f v delta : Nat) (ambient : Int) (a : HeatAccount) :
    (stepAccount b ax f v delta ambient a).postsSat =
      ((stepAccount b ax f v delta ambient a).account.sat && !a.sat) := by
  obtain ⟨_, hover, hbelow, hequal, _⟩ := stepAccount_account b ax f v delta ambient a
  have hposts : (stepAccount b ax f v delta ambient a).postsSat =
      (decide (900 * 65536 < rawTemp ax f v delta ambient a) && !a.sat) := rfl
  rw [hposts]
  obtain hlt | heq | hgt := lt_trichotomy (rawTemp ax f v delta ambient a) (900 * 65536)
  · rw [hbelow hlt, decide_eq_false hlt.not_gt]
  · rw [hequal heq, decide_eq_false heq.not_gt, Bool.and_not_self]
    rfl
  · rw [hover hgt, decide_eq_true hgt]

end Account

/-- Settles O16. -/
theorem boundaryStepsHeatAccounts : Obligations.BoundaryStepsHeatAccounts := by
  intro s t
  have hheat : t.heat = (heatStep (heldState s)).heat := makeBoundary_heat s
  have hlatched : t.latched = (heldState s).latched := by rw [makeBoundary_latched, heldState_latched]
  have hplan : t.plan = (heldState s).plan := by rw [makeBoundary_plan, heldState_plan]
  rw [hheat, hlatched, hplan, heatStep_lastSpeed]
  refine ⟨nextLastSpeed_of_use, fun h => ?_, fun hb => ?_, fun b i hb hcTh => ?_⟩
  · rw [nextLastSpeed_of_no_use h, heldState_heat]
  · rw [heatStep_accounts_of_not_live hb, heldState_heat]
  · intro old new
    have hold : (heldState s).heat.accounts.get i = old := by rw [heldState_heat]
    have hdelta : (heldState s).timer.delta.getD 0 = s.timer.counter := by
      rw [heldState_timer, Timer.takePeriod_delta]; rfl
    have hnew : new = (boundaryStep (heldState s) b i).account := heatStep_account hb i
    rw [boundaryStep, hold, hdelta] at hnew
    refine ⟨heatForce (heldState s) b i, heatSpeed (heldState s), fun kpa => heatForce_of_achieved, fun h => ?_,
      heatSpeed_of_use, fun c h => ?_, fun h hc => ?_, ?_⟩
    · rw [heatForce_of_grant h, heldState_app]
    · rw [← heldState_heat]; exact (heatSpeed_of_no_use h).1 c
    · rw [← heldState_heat]; exact (heatSpeed_of_no_use h).2 hc
    · intro ambient energy rise cooling raw
      have hraw : rawTemp (b.axles.get i) (heatForce (heldState s) b i) (heatSpeed (heldState s)) s.timer.counter ambient
          old = raw := by
        simp only [rawTemp, heatRise_eq _ _ _ hcTh, heatCooling_eq, raw, rise, cooling, energy, heatBeforeCeiling]
      rw [hnew, ← hraw]
      exact stepAccount_account b _ _ _ _ _ _

/-! ### The grades (R116 to R118) -/

section Grades

variable {b : PlanB} {temp : Int} {state g : HeatState}

/-- The threshold of a grade. -/
def gradeOn (b : PlanB) (g : HeatState) : Int :=
  (match g with | .cool => 0 | .warm => (b.warmOn : Int) | .hot => b.hotOn | .fade => b.fadeOn) * 65536

theorem heatRank_injective {g g' : HeatState} (h : heatRank g = heatRank g') : g = g' := by
  cases g <;> cases g' <;> simp_all [heatRank]

/-- The reached state is the highest whose threshold has been reached. -/
theorem heatRank_le_reached (hg : g ≠ .cool) (hon : gradeOn b g ≤ temp) :
    heatRank g ≤ heatRank (reachedState b temp) := by
  unfold reachedState
  cases g with
  | cool => exact absurd rfl hg
  | warm | hot | fade =>
    simp only [gradeOn] at hon
    simp only [Config.heatUnit, hon, if_true]
    repeat' split
    all_goals decide

theorem reached_on (h : reachedState b temp ≠ .cool) : gradeOn b (reachedState b temp) ≤ temp := by
  unfold reachedState at h ⊢
  split
  next hfade => exact hfade
  next =>
    split
    next hhot => exact hhot
    next =>
      split
      next hwarm => exact hwarm
      next hfade hhot hwarm => simp [hfade, hhot, hwarm] at h

theorem belowThreshold_iff {threshold : Nat} :
    belowThreshold b threshold temp = true ↔ temp < (threshold : Int) * 65536 - (b.hyst : Int) * 65536 := by
  rw [belowThreshold, decide_eq_true_iff, Config.heatUnit, sub_mul]

/-- The temperature is below the threshold of a grade less HYST. -/
def LeavesGrade (b : PlanB) (temp : Int) (g : HeatState) : Prop := temp < gradeOn b g - (b.hyst : Int) * 65536

/-- A lowered state has left each grade above it, and holds its own (R117). -/
structure LoweredTo (b : PlanB) (temp : Int) (state after : HeatState) : Prop where
  rank_le : heatRank after ≤ heatRank state
  left : ∀ g, heatRank after < heatRank g → heatRank g ≤ heatRank state → LeavesGrade b temp g
  holds : after ≠ .cool → ¬LeavesGrade b temp after

theorem LoweredTo.refl (h : state ≠ .cool → ¬LeavesGrade b temp state) : LoweredTo b temp state state :=
  ⟨le_rfl, fun _ hlt hle => absurd hle hlt.not_ge, h⟩

/-- One grade at a time. -/
theorem LoweredTo.step {below after : HeatState} (hleaves : LeavesGrade b temp state)
    (hbelow : heatRank below + 1 = heatRank state) (h : LoweredTo b temp below after) : LoweredTo b temp state after := by
  refine ⟨by have := h.rank_le; omega, fun g hlt hle => ?_, h.holds⟩
  obtain hlow | htop := Nat.le_or_eq_of_le_succ (hbelow ▸ hle)
  · exact h.left g hlt hlow
  · rw [heatRank_injective (htop.trans hbelow)]
    exact hleaves

theorem loweredState_loweredTo (b : PlanB) (temp : Int) (state : HeatState) :
    LoweredTo b temp state (loweredState b temp state) := by
  have hwarm : LoweredTo b temp .warm (loweredState b temp .warm) := by
    simp only [loweredState]
    split
    next h => exact .step (belowThreshold_iff.mp h) rfl (.refl fun hne => absurd rfl hne)
    next h => exact .refl fun _ hleaves => h (belowThreshold_iff.mpr hleaves)
  have hhot : LoweredTo b temp .hot (loweredState b temp .hot) := by
    simp only [loweredState] at hwarm ⊢
    split
    next h => exact .step (belowThreshold_iff.mp h) rfl hwarm
    next h => exact .refl fun _ hleaves => h (belowThreshold_iff.mpr hleaves)
  cases state with
  | cool => exact .refl fun hne => absurd rfl hne
  | warm => exact hwarm
  | hot => exact hhot
  | fade =>
    simp only [loweredState] at hhot ⊢
    split
    next h => exact .step (belowThreshold_iff.mp h) rfl hhot
    next h => exact .refl fun _ hleaves => h (belowThreshold_iff.mpr hleaves)

/-- A graded state is the reached one, above the state before, or the lowered one, where none above has been reached. -/
theorem gradedState_cases (b : PlanB) (temp : Int) (state : HeatState) :
    (heatRank state < heatRank (reachedState b temp) ∧ gradedState b temp state = reachedState b temp) ∨
    (heatRank (reachedState b temp) ≤ heatRank state ∧ LoweredTo b temp state (gradedState b temp state)) := by
  unfold gradedState
  split
  next h => exact .inl ⟨h, rfl⟩
  next h => exact .inr ⟨Nat.not_lt.mp h, loweredState_loweredTo b temp state⟩

/-- A threshold that has been reached is not below itself less HYST. -/
theorem not_leavesGrade_of_on (h : gradeOn b g ≤ temp) : ¬LeavesGrade b temp g := by
  unfold LeavesGrade
  omega

theorem gradedState_spec (b : PlanB) (temp : Int) (state : HeatState) :
    (∀ g, g ≠ .cool → gradeOn b g ≤ temp → heatRank g ≤ heatRank (gradedState b temp state)) ∧
    (heatRank state < heatRank (gradedState b temp state) → gradeOn b (gradedState b temp state) ≤ temp) ∧
    (∀ g, heatRank (gradedState b temp state) < heatRank g → heatRank g ≤ heatRank state → LeavesGrade b temp g) ∧
    (gradedState b temp state ≠ .cool → heatRank (gradedState b temp state) ≤ heatRank state →
      ¬LeavesGrade b temp (gradedState b temp state)) := by
  obtain ⟨hraised, hgraded⟩ | ⟨hreached, hlowered⟩ := gradedState_cases b temp state
  · rw [hgraded]
    have hne : reachedState b temp ≠ .cool := by
      intro hcool
      rw [hcool] at hraised
      exact absurd hraised (Nat.not_lt_zero _)
    exact ⟨fun g => heatRank_le_reached, fun _ => reached_on hne,
      fun g hlt hle => absurd hraised (hlt.trans_le hle).not_gt, fun _ hle => absurd hraised hle.not_gt⟩
  · refine ⟨fun g hg hon => ?_, fun hlt => absurd hlt hlowered.rank_le.not_gt, hlowered.left,
      fun hne _ => hlowered.holds hne⟩
    by_contra hbelow
    exact not_leavesGrade_of_on hon
      (hlowered.left g (Nat.not_le.mp hbelow) ((heatRank_le_reached hg hon).trans hreached))

end Grades

/-! ### The postings of the heat accounts (R115, R118) -/

section HeatPosts

variable {s t : State} {f : Port → EventKind → Nat}

/-- What one account posts. -/
def accountPostings (achieved : Option Force) (x : HeatStep) (p : Port) (k : EventKind) : Nat :=
  postedTo (laneIsNovalue achieved) .novalue [.b, .c] p k + postedTo x.postsSat .heatSat [.b, .c] p k +
  postedTo x.postsState .heatState allPorts p k

theorem Raises.postHeat (h : Raises s t f) (achieved : Option Force) (x : HeatStep) :
    Raises s (postHeat achieved x t) fun p k => f p k + accountPostings achieved x p k :=
  (((h.postIf _ _ _).postIf _ _ _).postIf _ _ _).congr fun p k => by
    rw [accountPostings]
    omega

/-- What the account of an axle posts at a boundary with section B live. -/
def axlePostings (s : State) (b : PlanB) (i : Axle) (p : Port) (k : EventKind) : Nat :=
  accountPostings (serviceAchieved s.latched b i) (boundaryStep s b i) p k

theorem heatStep_raises (h : CountsInRange s) {b : PlanB} (hb : s.plan.b.live = some b) :
    Raises s (heatStep s) fun p k => overAxles fun i => axlePostings s b i p k := by
  have hposted := (((Raises.refl h).postHeat (serviceAchieved s.latched b .front) (boundaryStep s b .front)).postHeat
    (serviceAchieved s.latched b .drive) (boundaryStep s b .drive)).postHeat (serviceAchieved s.latched b .tag)
    (boundaryStep s b .tag)
  refine (hposted.of_events ?_).congr fun p k => by rw [Nat.zero_add]; rfl
  unfold heatStep
  rw [hb]
  rfl

theorem heatStep_events_of_not_live (hb : s.plan.b.live = none) : (heatStep s).events = s.events := by
  unfold heatStep
  rw [hb]

theorem axlePostings_heatState (s : State) (b : PlanB) (i : Axle) (p : Port) :
    axlePostings s b i p .heatState = (boundaryStep s b i).postsState.toNat := by
  simp [axlePostings, accountPostings, postedTo, mem_allPorts]

theorem axlePostings_heatSat (s : State) (b : PlanB) (i : Axle) (p : Port) :
    axlePostings s b i p .heatSat = if p = .b ∨ p = .c then (boundaryStep s b i).postsSat.toNat else 0 := by
  by_cases hp : p = .b ∨ p = .c <;> simp [axlePostings, accountPostings, postedTo, hp]

theorem axlePostings_novalue (s : State) (b : PlanB) (i : Axle) (p : Port) :
    axlePostings s b i p .novalue =
      if p = .b ∨ p = .c then (laneIsNovalue (serviceAchieved s.latched b i)).toNat else 0 := by
  by_cases hp : p = .b ∨ p = .c <;> simp [axlePostings, accountPostings, postedTo, hp]

theorem heldState_postings (s : State) :
    Postings [.planApplied, .refresh, .expired, .stateChange, .holdDropped] s.events (heldState s).events :=
  (((agedState_postings s).weaken (by simp)).trans ((decideEngine_postings (agedState s)).weaken (by simp))).trans
    ((holdStep_postings (decidedState s)).weaken (by simp))

theorem Postings.inRange {ks : List EventKind} (h : Postings ks s.events t.events) (hs : CountsInRange s) :
    CountsInRange t :=
  fun p k => h.count_le p k (hs p k)

theorem heldState_inRange (h : CountsInRange s) : CountsInRange (heldState s) := (heldState_postings s).inRange h

/-- A mark changed at a boundary is posted once for each account. -/
theorem heatStep_marks (h : CountsInRange s) (p : Port) :
    (heatStep s).count p .heatState = raisedBy (s.count p .heatState) (overAxles fun i =>
      (decide (((heatStep s).heat.accounts.get i).state ≠ (s.heat.accounts.get i).state)).toNat) ∧
    (heatStep s).count p .heatSat = if p = .b ∨ p = .c then raisedBy (s.count p .heatSat) (overAxles fun i =>
      (((heatStep s).heat.accounts.get i).sat && !(s.heat.accounts.get i).sat).toNat) else s.count p .heatSat := by
  cases hb : s.plan.b.live with
  | none =>
    have hevents := heatStep_events_of_not_live hb
    rw [heatStep_accounts_of_not_live hb, State.count, State.count, hevents]
    simp [overAxles, State.count, raisedBy_zero (h p _), hevents]
  | some b =>
    have hraises : ∀ k, (heatStep s).count p k = raisedBy (s.count p k) (overAxles fun i => axlePostings s b i p k) :=
      heatStep_raises h hb p
    simp only [heatStep_account hb]
    constructor
    · rw [hraises, overAxles_congr fun i => axlePostings_heatState s b i p]
      rfl
    · rw [hraises, overAxles_congr fun i => axlePostings_heatSat s b i p]
      by_cases hp : p = .b ∨ p = .c
      · simp only [if_pos hp]
        exact congrArg _ (overAxles_congr fun i => congrArg Bool.toNat (stepAccount_postsSat ..))
      · simp only [if_neg hp]
        exact raisedBy_zero (h p _)

end HeatPosts

/-- Settles O17: a state falls grade by grade, and what an account posts is what its marks show. -/
theorem heatGradesWithHysteresis : Obligations.HeatGradesWithHysteresis := by
  refine ⟨fun b temp state _ _ => ?grades, fun s h => ?posts⟩
  case grades =>
    intro on after
    have hon : on = gradeOn b := by funext g; cases g <;> rfl
    rw [hon]
    obtain ⟨hhighest, hraised, hleft, hholds⟩ := gradedState_spec b temp state
    exact ⟨hhighest, hraised, hleft, fun hne hle => Int.not_lt.mp (hholds hne hle)⟩
  case posts =>
    intro t changed clamped p
    have hheat : t.heat = (heatStep (heldState s)).heat := makeBoundary_heat s
    obtain ⟨hstate, hsat⟩ := heatStep_marks (heldState_inRange h) p
    rw [(heldState_postings s).count_eq p (by simp), heldState_heat] at hstate hsat
    have hkind : ∀ k, k = .heatState ∨ k = .heatSat → (t.events.get p).counts.get k = (heatStep (heldState s)).count p k :=
      fun k hk => makeBoundary_count s p (by obtain rfl | rfl := hk <;> simp)
    rw [hkind _ (.inl rfl), hkind _ (.inr rfl), hstate, hsat]
    simp only [changed, clamped, hheat]
    exact ⟨rfl, rfl⟩

end Sys2Proof.Machine
end

section
/-! PROOFS. A boundary's evaluator and the set that it begins (chapters 4 and 5): shift gap and slip cut, capacities and
flags, grants and split. -/

namespace Sys2Proof.Machine

open Sys2Proof

/-! ### Shift gap and stale mark (R70 to R72) -/

section Shift

variable {t : PlanT} {b : PlanB} {latched : Reports} {delta : Nat} {x : Capability}

theorem latchedShifting_iff :
    latchedShifting latched = true ↔ InUse latched.trans.state ∧ latched.trans.fields.shifting = true := by
  rw [latchedShifting, Bool.and_eq_true, isUsable_iff]

theorem latchedDriveSlip_iff :
    latchedDriveSlip latched = true ↔ InUse latched.axles.state ∧ latched.axles.fields.axle.drive.slip = true := by
  rw [latchedDriveSlip, Bool.and_eq_true, isUsable_iff]

theorem exhaustJustLatched_iff :
    exhaustJustLatched latched = true ↔ InUse latched.exhaust.state ∧ latched.exhaust.age = 1 := by
  rw [exhaustJustLatched, Bool.and_eq_true, isUsable_iff, decide_eq_true_iff]

theorem endsLong_iff :
    endsLong t latched delta x = true ↔
      x.shift = .gap ∧ latchedShifting latched = true ∧ t.shiftMax * 10 ≤ x.shiftElapsed + delta := by
  rw [endsLong, Bool.and_eq_true, Bool.and_eq_true, decide_eq_true_iff, decide_eq_true_iff, and_assoc]

/-- The slip cut leaves the shift state and the stale mark. -/
theorem nextSlip_shift (slipping : Bool) (x : Capability) :
    (nextSlip b slipping delta x).shift = x.shift ∧ (nextSlip b slipping delta x).shiftElapsed = x.shiftElapsed ∧
    (nextSlip b slipping delta x).armed = x.armed ∧ (nextSlip b slipping delta x).stale = x.stale := by
  unfold nextSlip
  split <;> exact ⟨rfl, rfl, rfl, rfl⟩

/-- The shift state leaves the stale mark and the slip cut. -/
theorem nextShift_slip (x : Capability) :
    (nextShift t latched delta x).stale = x.stale ∧ (nextShift t latched delta x).slip = x.slip ∧
    (nextShift t latched delta x).holdElapsed = x.holdElapsed := by
  unfold nextShift
  repeat' split
  all_goals exact ⟨rfl, rfl, rfl⟩

/-- The shift state does not look at the stale mark. -/
theorem nextShift_stale (x : Capability) (stale : Bool) :
    nextShift t latched delta { x with stale := stale } = { nextShift t latched delta x with stale := stale } := by
  obtain ⟨shift, elapsed, armed, stale', slip, hold⟩ := x
  cases shift <;> simp only [nextShift, endsLong] <;> repeat' split
  all_goals rfl

theorem Capability.next_shift :
    (x.next t b latched delta).shift = (nextShift t latched delta x).shift ∧
    (x.next t b latched delta).shiftElapsed = (nextShift t latched delta x).shiftElapsed ∧
    (x.next t b latched delta).armed = (nextShift t latched delta x).armed ∧
    (x.next t b latched delta).stale = nextStale (endsLong t latched delta x) latched x.stale := by
  simp only [Capability.next, nextSlip_shift, nextShift_stale, and_self]

theorem nextSlip_congr {slipping : Bool} {y : Capability} (hslip : y.slip = x.slip) (hhold : y.holdElapsed = x.holdElapsed) :
    (nextSlip b slipping delta y).slip = (nextSlip b slipping delta x).slip ∧
    (nextSlip b slipping delta y).holdElapsed = (nextSlip b slipping delta x).holdElapsed := by
  unfold nextSlip
  rw [hslip, hhold]
  cases x.slip <;> cases slipping <;> simp [settleHold, hslip, hhold]

theorem Capability.next_slip :
    (x.next t b latched delta).slip = (nextSlip b (latchedDriveSlip latched) delta x).slip ∧
    (x.next t b latched delta).holdElapsed = (nextSlip b (latchedDriveSlip latched) delta x).holdElapsed := by
  obtain ⟨_, hslip, hhold⟩ := nextShift_slip (t := t) (latched := latched) (delta := delta)
    { x with stale := nextStale (endsLong t latched delta x) latched x.stale }
  exact nextSlip_congr hslip hhold

/-! The cases of the shift state. -/

theorem nextShift_idle_clear (hx : x.shift = .idle) (hs : latchedShifting latched = false) :
    nextShift t latched delta x = { x with armed := true } := by simp [nextShift, hx, hs]

theorem nextShift_idle_armed (hx : x.shift = .idle) (hs : latchedShifting latched = true) (ha : x.armed = true) :
    nextShift t latched delta x = { x with shift := .gap, shiftElapsed := 0, armed := false } := by
  simp [nextShift, hx, hs, ha]

theorem nextShift_idle_disarmed (hx : x.shift = .idle) (hs : latchedShifting latched = true) (ha : x.armed = false) :
    nextShift t latched delta x = x := by simp [nextShift, hx, hs, ha]

theorem nextShift_gap_clear (hx : x.shift = .gap) (hs : latchedShifting latched = false) :
    nextShift t latched delta x = { x with shift := .idle, shiftElapsed := x.shiftElapsed + delta, armed := true } := by
  simp [nextShift, hx, hs]

theorem nextShift_long (h : endsLong t latched delta x = true) :
    nextShift t latched delta x = { x with shift := .idle, shiftElapsed := x.shiftElapsed + delta } := by
  obtain ⟨hx, hs, _⟩ := endsLong_iff.mp h
  simp [nextShift, hx, hs, h]

theorem nextShift_gap_on (hx : x.shift = .gap) (hs : latchedShifting latched = true)
    (h : endsLong t latched delta x = false) :
    nextShift t latched delta x = { x with shiftElapsed := x.shiftElapsed + delta } := by
  simp [nextShift, hx, hs, h]

end Shift

/-! ### The evaluator at a boundary (R66, R71, R73) -/

section Evaluator

variable {s : State} {live : PlanCopy} {k : EventKind}

/-- A boundary that leaves UNPLANNED has four live sections to evaluate. -/
theorem allLive_of_planned (h : (makeBoundary s).app.engine ≠ .unplanned) :
    ∃ live, s.plan.copied.allLive = some live := by
  rw [makeBoundary_engine] at h
  exact Option.isSome_iff_exists.mp (Option.isSome_iff_ne_none.mpr fun hnone =>
    h (boundaryEngine_eq_unplanned_iff.mpr hnone))

theorem apportionStep_events {u : State} (h : u.plan.allLive = some live) :
    (apportionStep u).events = (postLanes live (shiftSlipStep live u)).events := by
  unfold apportionStep
  rw [h]

/-- The lanes post NOVALUE alone. -/
theorem postLanes_count (live : PlanCopy) (u : State) (p : Port) (hk : k ≠ .novalue) :
    (postLanes live u).count p k = u.count p k := by
  simp only [State.count, postLanes, State.postIf_count_other _ _ _ _ hk]

/-- Apart from NOVALUE, a boundary posts at its end what the evaluator's state posts. -/
theorem makeBoundary_count_of_live (h : s.plan.copied.allLive = some live) (p : Port) (hk : k ≠ .novalue) :
    (makeBoundary s).count p k = (shiftSlipStep live (heatedState s)).count p k := by
  rw [makeBoundary_eq, State.count, apportionStep_events (live := live) (by rw [heatedState_plan]; exact h)]
  exact postLanes_count live _ p hk

/-- The evaluator's stages before its own post neither of its kinds. -/
theorem heatedState_count_of_evaluator (s : State) (p : Port) (hk : k = .shiftLong ∨ k = .slipCut) :
    (heatedState s).count p k = s.count p k := by
  obtain rfl | rfl := hk <;>
    rw [heatedState_count s p (by simp), (heldState_postings s).count_eq p (by simp)]

theorem shiftSlipStep_shiftLong (live : PlanCopy) (u : State) (p : Port) :
    (shiftSlipStep live u).count p .shiftLong =
      if endsLong live.t u.latched (u.timer.delta.getD 0) u.cap = true ∧ (p = .e ∨ p = .t) then
        bump (u.count p .shiftLong) else u.count p .shiftLong := by
  refine (State.postIf_count_other _ _ _ p (by simp)).trans ((State.postIf_count ..).trans ?_)
  simp [State.count]

theorem shiftSlipStep_slipCut (live : PlanCopy) (u : State) (p : Port) :
    (shiftSlipStep live u).count p .slipCut =
      if beginsCut (latchedDriveSlip u.latched) u.cap = true ∧ p ≠ .b then bump (u.count p .slipCut)
      else u.count p .slipCut := by
  refine (State.postIf_count ..).trans ?_
  rw [State.postIf_count_other _ _ _ p (by simp)]
  cases p <;> simp [State.count]

theorem makeBoundary_shiftLong (h : s.plan.copied.allLive = some live) (p : Port) :
    (makeBoundary s).count p .shiftLong =
      if endsLong live.t (agedState s).reports s.timer.counter s.cap = true ∧ (p = .e ∨ p = .t) then
        bump (s.count p .shiftLong) else s.count p .shiftLong := by
  rw [makeBoundary_count_of_live h p (by simp), shiftSlipStep_shiftLong, heatedState_count_of_evaluator s p (.inl rfl)]
  simp

theorem makeBoundary_slipCut (h : s.plan.copied.allLive = some live) (p : Port) :
    (makeBoundary s).count p .slipCut =
      if beginsCut (latchedDriveSlip (agedState s).reports) s.cap = true ∧ p ≠ .b then bump (s.count p .slipCut)
      else s.count p .slipCut := by
  rw [makeBoundary_count_of_live h p (by simp), shiftSlipStep_slipCut, heatedState_count_of_evaluator s p (.inr rfl)]
  simp

theorem beginsCut_iff {slipping : Bool} {x : Capability} :
    beginsCut slipping x = true ↔ x.slip = .off ∧ slipping = true := by
  rw [beginsCut, Bool.and_eq_true, decide_eq_true_iff]

end Evaluator

/-- Settles O18. -/
theorem boundaryUpdatesShiftAndSlip : Obligations.BoundaryUpdatesShiftAndSlip := by
  refine ⟨fun s hengine => ?_, fun s pt pb => ?_⟩
  · rw [makeBoundary_engine] at hengine
    exact (makeBoundary_unplanned (boundaryEngine_eq_unplanned_iff.mp hengine)).2
  intro t shifting slipping long rewritten hengine hpt hpb
  obtain ⟨live, hlive⟩ := allLive_of_planned hengine
  obtain ⟨_, ht, hb, _⟩ := PlanStore.allLive_eq_some_iff.mp hlive
  have hplan : t.plan = s.plan.copied := makeBoundary_plan s
  rw [hplan] at hpt hpb
  cases ht.symm.trans hpt
  cases hb.symm.trans hpb
  have hlatched : t.latched = (agedState s).reports := makeBoundary_latched s
  have hcap : t.cap = s.cap.next live.t live.b t.latched s.timer.counter := hlatched ▸ (makeBoundary_live hlive).2
  have hshifting : latchedShifting t.latched = true ↔ shifting := latchedShifting_iff
  have hslipping : latchedDriveSlip t.latched = true ↔ slipping := latchedDriveSlip_iff
  have hlong : endsLong live.t t.latched s.timer.counter s.cap = true ↔ long := by
    rw [endsLong_iff, hshifting]
  obtain ⟨hshift, helapsed, harmed, hstale⟩ := Capability.next_shift (x := s.cap) (t := live.t) (b := live.b)
    (latched := t.latched) (delta := s.timer.counter)
  obtain ⟨hslip, hhold⟩ := Capability.next_slip (x := s.cap) (t := live.t) (b := live.b) (latched := t.latched)
    (delta := s.timer.counter)
  rw [← hcap] at hshift helapsed harmed hstale hslip hhold
  have hclear : ¬shifting → latchedShifting t.latched = false := fun h => Bool.eq_false_iff.mpr (mt hshifting.mp h)
  have hnoslip : ¬slipping → latchedDriveSlip t.latched = false := fun h => Bool.eq_false_iff.mpr (mt hslipping.mp h)
  refine ⟨fun hx h => ?_, fun hx h ha => ?_, fun hx h ha => ?_, fun hx h => ?_, fun h => ?_, fun hx h hl => ?_,
    fun hl => ?_, fun hx => ⟨fun h => ?_, fun h => ?_⟩, fun hx h => ?_, fun hx h => ?_, fun hx h => ?_, fun hx h => ?_,
    fun p => ?_⟩
  · rw [hshift, harmed, nextShift_idle_clear hx (hclear h)]; exact ⟨hx, rfl⟩
  · rw [hshift, helapsed, harmed, nextShift_idle_armed hx (hshifting.mpr h) ha]; exact ⟨rfl, rfl, rfl⟩
  · rw [hshift, harmed, nextShift_idle_disarmed hx (hshifting.mpr h) ha]; exact ⟨hx, ha⟩
  · rw [hshift, harmed, nextShift_gap_clear hx (hclear h)]; exact ⟨rfl, rfl⟩
  · rw [hshift, harmed, hstale, nextShift_long (hlong.mpr h), hlong.mpr h]; exact ⟨rfl, rfl, rfl⟩
  · rw [hshift, helapsed, harmed, nextShift_gap_on hx (hshifting.mpr h) (Bool.eq_false_iff.mpr (mt hlong.mp hl))]
    exact ⟨hx, rfl, rfl⟩
  · have hnot : endsLong live.t t.latched s.timer.counter s.cap = false :=
      Bool.eq_false_iff.mpr (mt hlong.mp hl)
    rw [hstale, hnot, nextStale, if_neg Bool.false_ne_true, Bool.and_eq_true, Bool.not_eq_true', ← Bool.not_eq_true,
      exhaustJustLatched_iff]
  · rw [hslip, hslipping.mpr h]; simp [nextSlip, hx]
  · rw [hslip, hnoslip h]; simp [nextSlip, hx]
  · rw [hslip, hslipping.mpr h]; simp [nextSlip, hx]
  · rw [hslip, hhold, hnoslip h]; simp [nextSlip, hx, settleHold]
  · rw [hslip, hhold, hslipping.mpr h]; simp [nextSlip, hx]
  · rw [hslip, hhold, hnoslip h]; simp [nextSlip, hx, settleHold]
  · have hshiftLong := makeBoundary_shiftLong hlive p
    have hslipCut := makeBoundary_slipCut hlive p
    rw [← hlatched] at hshiftLong hslipCut
    exact ⟨fun hp hl => hshiftLong.trans (if_pos ⟨hlong.mpr hl, hp⟩),
      fun hn => hshiftLong.trans (if_neg fun ⟨hl, hp⟩ => hn ⟨hp, hlong.mp hl⟩),
      fun hp hx h => hslipCut.trans (if_pos ⟨beginsCut_iff.mpr ⟨hx, hslipping.mpr h⟩, hp⟩),
      fun hn => hslipCut.trans (if_neg fun ⟨hcut, hp⟩ =>
        hn ⟨hp, (beginsCut_iff.mp hcut).1, hslipping.mp (beginsCut_iff.mp hcut).2⟩)⟩

end Sys2Proof.Machine
end

section
/-! PROOFS. The set that a boundary begins: its capacities and flags, its grants, and its split (chapters 4 and 5). -/

namespace Sys2Proof.Machine

open Sys2Proof

/-! ### The state that a boundary computes on -/

section Computes

variable {s : State} {pe : PlanE} {pt : PlanT} {pb : PlanB} {pc : PlanC}

/-- With four live sections a boundary computes its set on the blocks as it leaves them, with the apportioner's previous
values. -/
theorem makeBoundary_computes (he : (makeBoundary s).plan.e.live = some pe) (ht : (makeBoundary s).plan.t.live = some pt)
    (hb : (makeBoundary s).plan.b.live = some pb) (hc : (makeBoundary s).plan.c.live = some pc) :
    ∃ u : State, (makeBoundary s).app.pendingSet = some (computeSet { e := pe, t := pt, b := pb, c := pc } u) ∧
      (makeBoundary s).latched = u.latched ∧ (makeBoundary s).cap = u.cap ∧ (makeBoundary s).demand = u.demand ∧
      (makeBoundary s).heat = u.heat ∧ (makeBoundary s).plan = u.plan ∧
      u.app = { s.app with pendingSet := none, engine := (makeBoundary s).app.engine } := by
  rw [makeBoundary_plan] at he ht hb hc
  have hlive : s.plan.copied.allLive = some { e := pe, t := pt, b := pb, c := pc } :=
    PlanStore.allLive_eq_some_iff.mpr ⟨he, ht, hb, hc⟩
  obtain ⟨hset, hcap⟩ := makeBoundary_live hlive
  refine ⟨evaluatedState _ s, hset, ?_, ?_, ?_, ?_, ?_, ?_⟩
  · rw [makeBoundary_latched, evaluatedState_latched]
  · rw [hcap, evaluatedState_cap]
  · rw [makeBoundary_demand, evaluatedState_demand]
  · rw [makeBoundary_heat, evaluatedState_heat]
  · rw [makeBoundary_plan, evaluatedState_plan]
  · rw [evaluatedState_app, makeBoundary_engine]

end Computes

/-! ### Lanes (R25, R67 to R69) -/

section Lanes

variable {live : PlanCopy} {r : Reports} {i : Axle}

theorem latchedGear_of_use (h : InUse r.trans.state) : latchedGear r = r.trans.fields.gear := if_pos (isUsable_iff.mpr h)

theorem latchedGear_of_no_use (h : ¬InUse r.trans.state) : latchedGear r = 0 := if_neg (isUsable_iff.not.mpr h)

theorem exhaustLanes_of_use (h : InUse r.exhaust.state) :
    exhaustLanes live r =
      { capacity := some (exhaustForce (roundingOfCode live.e.rounding)
          (curveAt (roundingOfCode live.e.rounding) (r.exhaust.fields.rpm : Int) live.e.curve) (latchedGear r)
          live.t.axleRatio live.t.radius),
        achieved := r.exhaust.fields.achieved.map fun n =>
          exhaustForce (roundingOfCode live.e.rounding) n (latchedGear r) live.t.axleRatio live.t.radius } :=
  if_pos (isUsable_iff.mpr h)

theorem exhaustLanes_of_no_use (h : ¬InUse r.exhaust.state) :
    exhaustLanes live r = { capacity := none, achieved := none } := if_neg (isUsable_iff.not.mpr h)

theorem retarderLanes_of_use (h : InUse r.trans.state) :
    retarderLanes live r =
      { capacity := some (retarderForce (roundingOfCode live.t.rounding)
          (curveAt (roundingOfCode live.t.rounding) (r.trans.fields.rpm : Int) live.t.curve) live.t.axleRatio
          live.t.radius),
        achieved := r.trans.fields.achieved.map fun n =>
          retarderForce (roundingOfCode live.t.rounding) n live.t.axleRatio live.t.radius } :=
  if_pos (isUsable_iff.mpr h)

theorem retarderLanes_of_no_use (h : ¬InUse r.trans.state) :
    retarderLanes live r = { capacity := none, achieved := none } := if_neg (isUsable_iff.not.mpr h)

theorem serviceProduct_of_use (h : InUse r.axles.state) :
    serviceProduct live r i = some (pressureForce (r.axles.fields.axle.get i).pmax (live.b.axles.get i).gain) :=
  if_pos (isUsable_iff.mpr h)

theorem serviceProduct_of_no_use (h : ¬InUse r.axles.state) : serviceProduct live r i = none :=
  if_neg (isUsable_iff.not.mpr h)

theorem Force.isNovalue_eq (x : Force) : x.isNovalue = decide (x = .novalue) := by cases x <;> simp [Force.isNovalue]

/-- A pressure force is NOVALUE exactly above F_MAX. -/
theorem pressureForce_isNovalue (p k : Nat) : (pressureForce p k).isNovalue = decide (400000 < p * k) := by
  obtain h | h := le_or_gt (p * k) 400000
  · rw [pressureForce_of_within h, decide_eq_false h.not_gt]; rfl
  · rw [pressureForce_of_over h, decide_eq_true h]; rfl

/-- The gear ratio as the statements write it. -/
theorem latchedGear_eq (r : Reports) :
    latchedGear r = if decide (r.trans.state = .fresh) || decide (r.trans.state = .aging) then r.trans.fields.gear else 0 := by
  rw [latchedGear, isUsable_eq]

variable (live r i)

theorem exhaustLanes_capacity_over :
    laneIsNovalue (exhaustLanes live r).capacity = exhaustOver live.e live.t r (exhaustCurve live.e r) := by
  simp only [exhaustLanes, exhaustOver, exhaustCurve, ← isUsable_eq]
  cases r.exhaust.state.isUsable with
  | false => rfl
  | true => exact (Force.isNovalue_eq _)

theorem exhaustLanes_achieved_over :
    laneIsNovalue (exhaustLanes live r).achieved = exhaustOver live.e live.t r r.exhaust.fields.achieved := by
  simp only [exhaustLanes, exhaustOver, ← isUsable_eq]
  cases r.exhaust.state.isUsable <;> cases r.exhaust.fields.achieved
  case true.some => exact (Force.isNovalue_eq _)
  all_goals rfl

theorem retarderLanes_capacity_over :
    laneIsNovalue (retarderLanes live r).capacity = retarderOver live.t r (retarderCurve live.t r) := by
  simp only [retarderLanes, retarderOver, retarderCurve, ← isUsable_eq]
  cases r.trans.state.isUsable with
  | false => rfl
  | true => exact (Force.isNovalue_eq _)

theorem retarderLanes_achieved_over :
    laneIsNovalue (retarderLanes live r).achieved = retarderOver live.t r r.trans.fields.achieved := by
  simp only [retarderLanes, retarderOver, ← isUsable_eq]
  cases r.trans.state.isUsable <;> cases r.trans.fields.achieved
  case true.some => exact (Force.isNovalue_eq _)
  all_goals rfl

theorem serviceProduct_over :
    laneIsNovalue (serviceProduct live r i) = axleOver live.b r i (some (r.axles.fields.axle.get i).pmax) := by
  simp only [serviceProduct, axleOver, ← isUsable_eq]
  cases r.axles.state.isUsable with
  | false => rfl
  | true => exact pressureForce_isNovalue _ _

theorem serviceAchieved_over (b : PlanB) :
    laneIsNovalue (serviceAchieved r b i) = axleOver b r i (r.axles.fields.axle.get i).achieved := by
  simp only [serviceAchieved, axleOver, ← isUsable_eq]
  cases r.axles.state.isUsable <;> cases (r.axles.fields.axle.get i).achieved
  case true.some => exact pressureForce_isNovalue _ _
  all_goals rfl

end Lanes

/-! ### Capacities (R67, R68, R78) -/

section Capacities

variable {live : PlanCopy} {r : Reports} {x : Capability} {i : Axle}

/-- The soft-age derate of a record, by its state. -/
theorem derateAge_agingMark (state : ReportState) (f : Nat) :
    derateAge (agingMark state) f = if state = .aging then f / 2 else f := by
  by_cases h : state = .aging <;> simp [derateAge, agingMark, h]

theorem enduranceCapacity_withheld (lane : Option Force) (avail : Nat) (isAging : Bool) :
    enduranceCapacity lane avail isAging true = 0 := rfl

theorem enduranceCapacity_none (avail : Nat) (isAging withheld : Bool) :
    enduranceCapacity none avail isAging withheld = 0 := by
  cases withheld <;> rfl

theorem enduranceCapacity_novalue (avail : Nat) (isAging withheld : Bool) :
    enduranceCapacity (some .novalue) avail isAging withheld = 0 := by
  cases withheld <;> rfl

theorem enduranceCapacity_newtons (f avail : Nat) (state : ReportState) :
    enduranceCapacity (some (.newtons f)) avail (agingMark state) false =
      if state = .aging then f * avail / 100 / 2 else f * avail / 100 :=
  derateAge_agingMark state _

theorem gapMark_iff : x.gapMark = true ↔ x.shift = .gap ∨ x.stale = true := by
  rw [Capability.gapMark, Bool.or_eq_true, decide_eq_true_iff]

theorem cutMark_iff : x.cutMark = true ↔ x.slip ≠ .off := decide_eq_true_iff

theorem exhaustResult_capacity_zero
    (h : ¬InUse r.exhaust.state ∨ x.shift = .gap ∨ x.stale = true ∨ x.slip ≠ .off) :
    (exhaustResult live r x).capacity = 0 := by
  rw [exhaustResult]
  obtain hout | hgap | hstale | hcut := h
  · rw [exhaustLanes_of_no_use hout]; simp only [enduranceCapacity_none]
  · rw [gapMark_iff.mpr (.inl hgap), Bool.true_or]; simp only [enduranceCapacity_withheld]
  · rw [gapMark_iff.mpr (.inr hstale), Bool.true_or]; simp only [enduranceCapacity_withheld]
  · rw [cutMark_iff.mpr hcut, Bool.or_true]; simp only [enduranceCapacity_withheld]

theorem retarderResult_capacity_zero (h : ¬InUse r.trans.state ∨ x.slip ≠ .off) :
    (retarderResult live r x).capacity = 0 := by
  rw [retarderResult]
  obtain hout | hcut := h
  · rw [retarderLanes_of_no_use hout]; simp only [enduranceCapacity_none]
  · rw [cutMark_iff.mpr hcut]; simp only [enduranceCapacity_withheld]

/-- A capacity that is not withheld, from the force of its lane. -/
theorem enduranceCapacity_of_force (force : Force) (avail : Nat) (state : ReportState) :
    (force = .novalue → enduranceCapacity (some force) avail (agingMark state) false = 0) ∧
    ∀ f, force = .newtons f → enduranceCapacity (some force) avail (agingMark state) false =
      if state = .aging then f * avail / 100 / 2 else f * avail / 100 := by
  refine ⟨fun h => ?_, fun f h => ?_⟩ <;> rw [h]
  · exact enduranceCapacity_novalue ..
  · exact enduranceCapacity_newtons ..

theorem marks_clear (hshift : x.shift = .idle) (hstale : x.stale = false) (hslip : x.slip = .off) :
    (x.gapMark || x.cutMark) = false := by
  simp [Capability.gapMark, Capability.cutMark, hshift, hstale, hslip]

theorem exhaustResult_capacity_eq (huse : InUse r.exhaust.state) (hclear : (x.gapMark || x.cutMark) = false) :
    (exhaustResult live r x).capacity =
      enduranceCapacity (some (exhaustForce (roundingOfCode live.e.rounding)
        (curveAt (roundingOfCode live.e.rounding) (r.exhaust.fields.rpm : Int) live.e.curve) (latchedGear r)
        live.t.axleRatio live.t.radius)) r.exhaust.fields.avail (agingMark r.exhaust.state) false := by
  rw [exhaustResult, hclear, exhaustLanes_of_use huse]

theorem retarderResult_capacity_eq (huse : InUse r.trans.state) (hslip : x.slip = .off) :
    (retarderResult live r x).capacity =
      enduranceCapacity (some (retarderForce (roundingOfCode live.t.rounding)
        (curveAt (roundingOfCode live.t.rounding) (r.trans.fields.rpm : Int) live.t.curve) live.t.axleRatio
        live.t.radius)) r.trans.fields.avail (agingMark r.trans.state) false := by
  have hclear : x.cutMark = false := Bool.eq_false_iff.mpr fun h => cutMark_iff.mp h hslip
  rw [retarderResult, hclear, retarderLanes_of_use huse]

theorem serviceCapacity_of_no_use (h : ¬InUse r.axles.state) (temp : Int) : serviceCapacity live r i temp = 0 := by
  rw [serviceCapacity, serviceProduct_of_no_use h]

theorem serviceCapacity_of_use (h : InUse r.axles.state) (temp : Int) :
    (400000 < (r.axles.fields.axle.get i).pmax * (live.b.axles.get i).gain → serviceCapacity live r i temp = 0) ∧
    ((r.axles.fields.axle.get i).pmax * (live.b.axles.get i).gain ≤ 400000 → serviceCapacity live r i temp =
      if r.axles.state = .aging then
        (r.axles.fields.axle.get i).pmax * (live.b.axles.get i).gain * heatFade live.b temp / 100 / 2
      else (r.axles.fields.axle.get i).pmax * (live.b.axles.get i).gain * heatFade live.b temp / 100) := by
  refine ⟨fun hover => ?_, fun hwithin => ?_⟩ <;> rw [serviceCapacity, serviceProduct_of_use h]
  · rw [pressureForce_of_over hover]
  · rw [pressureForce_of_within hwithin]
    exact derateAge_agingMark _ _

end Capacities

/-! ### The records of a computed set -/

section Records

variable (live : PlanCopy) (s : State) (i : Axle)

theorem computeSet_service_get :
    (computeSet live s).service.get i =
      serviceRecord live s.latched i ((setInputs live s).get i).capacity ((setSplit live s).get i) := by
  rw [computeSet_eq, PerAxle.get_map]

theorem setInputs_get :
    (setInputs live s).get i =
      axleInput live s (setCeiling live s - ((setPair live s).e.grant + (setPair live s).r.grant)) i :=
  PerAxle.get_build _ i

theorem setInputs_capacity :
    ((setInputs live s).get i).capacity = serviceCapacity live s.latched i (s.heat.accounts.get i).temp := by
  rw [setInputs_get]; rfl

theorem computeSet_service_capacity :
    ((computeSet live s).service.get i).capacity = serviceCapacity live s.latched i (s.heat.accounts.get i).temp := by
  rw [computeSet_service_get, setInputs_capacity]; rfl

theorem agingMark_iff {x : ReportState} : agingMark x = true ↔ x = .aging := decide_eq_true_iff

theorem expiredMark_iff {x : ReportState} : expiredMark x = true ↔ ¬InUse x := by
  rw [expiredMark, Bool.not_eq_true', isUsable_eq_false_iff]

end Records

/-! ### The NOVALUE postings (R25) -/

section Novalue

variable {s t : State} {f : Port → EventKind → Nat} {live : PlanCopy}

/-- What the lanes post, the endurance brakes' first. -/
def lanePostings (live : PlanCopy) (r : Reports) (p : Port) (k : EventKind) : Nat :=
  postedTo (exhaustOver live.e live.t r (exhaustCurve live.e r)) .novalue [.e, .c] p k +
  postedTo (exhaustOver live.e live.t r r.exhaust.fields.achieved) .novalue [.e, .c] p k +
  postedTo (retarderOver live.t r (retarderCurve live.t r)) .novalue [.t, .c] p k +
  postedTo (retarderOver live.t r r.trans.fields.achieved) .novalue [.t, .c] p k +
  overAxles fun i => postedTo (axleOver live.b r i (some (r.axles.fields.axle.get i).pmax)) .novalue [.b, .c] p k

theorem postLanes_raises (h : CountsInRange s) (live : PlanCopy) :
    Raises s (postLanes live s) (lanePostings live s.latched) :=
  ((((((((Raises.refl h).postIf _ _ _).postIf _ _ _).postIf _ _ _).postIf _ _ _).postIf _ _ _).postIf _ _ _).postIf
    _ _ _).congr fun p k => by
      rw [Nat.zero_add, exhaustLanes_capacity_over, exhaustLanes_achieved_over, retarderLanes_capacity_over,
        retarderLanes_achieved_over, serviceProduct_over, serviceProduct_over, serviceProduct_over]
      simp only [lanePostings, overAxles, Nat.add_assoc]

/-- Shift and slip post no NOVALUE. -/
theorem shiftSlipStep_novalue (live : PlanCopy) (u : State) (p : Port) :
    (shiftSlipStep live u).count p .novalue = u.count p .novalue :=
  (State.postIf_count_other _ _ _ p (by simp)).trans (State.postIf_count_other _ _ _ p (by simp))

/-- What the achieved forces of the axles post. -/
def achievedOver (b : PlanB) (r : Reports) : Nat :=
  overAxles fun i => (axleOver b r i (r.axles.fields.axle.get i).achieved).toNat

theorem heatStep_novalue (h : CountsInRange s) {b : PlanB} (hb : s.plan.b.live = some b) (p : Port) :
    (heatStep s).count p .novalue =
      if p = .b ∨ p = .c then raisedBy (s.count p .novalue) (achievedOver b s.latched) else s.count p .novalue := by
  have hraises : (heatStep s).count p .novalue =
      raisedBy (s.count p .novalue) (overAxles fun i => axlePostings s b i p .novalue) := heatStep_raises h hb p .novalue
  rw [hraises, overAxles_congr fun i => axlePostings_novalue s b i p]
  by_cases hp : p = .b ∨ p = .c
  · simp only [if_pos hp, serviceAchieved_over]
    rfl
  · simp only [if_neg hp]
    exact raisedBy_zero (h p _)

/-- Before the lanes a boundary posts the NOVALUE of the achieved forces. -/
theorem heatedState_novalue (h : CountsInRange s) {b : PlanB} (hb : s.plan.copied.b.live = some b) (p : Port) :
    (heatedState s).count p .novalue =
      if p = .b ∨ p = .c then raisedBy (s.count p .novalue) (achievedOver b (makeBoundary s).latched)
      else s.count p .novalue := by
  have hheld : (heldState s).plan.b.live = some b := by rw [heldState_plan]; exact hb
  rw [heatedState, heatStep_novalue (heldState_inRange h) hheld, (heldState_postings s).count_eq p (by simp),
    heldState_latched, makeBoundary_latched]

theorem makeBoundary_novalue_of_no_b (hb : s.plan.copied.b.live = none) (p : Port) :
    (makeBoundary s).count p .novalue = s.count p .novalue := by
  have hnone : (heatedState s).plan.allLive = none := by
    rw [heatedState_plan, ← Option.not_isSome_iff_eq_none, PlanStore.allLive_isSome, hb]
    simp
  rw [makeBoundary_eq, apportionStep_unplanned _ hnone, State.count, heatedState,
    heatStep_events_of_not_live (by rw [heldState_plan]; exact hb)]
  exact (heldState_postings s).count_eq p (by simp)

theorem makeBoundary_novalue_of_unplanned (h : CountsInRange s) {b : PlanB} (hb : s.plan.copied.b.live = some b)
    (hnone : s.plan.copied.allLive = none) (p : Port) :
    (makeBoundary s).count p .novalue =
      if p = .b ∨ p = .c then raisedBy (s.count p .novalue) (achievedOver b (makeBoundary s).latched)
      else s.count p .novalue := by
  rw [← heatedState_novalue h hb p, makeBoundary_eq, apportionStep_unplanned _ (by rw [heatedState_plan]; exact hnone)]
  rfl

theorem heatedState_inRange (h : CountsInRange s) : CountsInRange (heatedState s) :=
  (heatStep_postings (heldState s)).inRange (heldState_inRange h)

theorem makeBoundary_novalue_of_live (h : CountsInRange s) (hlive : s.plan.copied.allLive = some live) (p : Port) :
    (makeBoundary s).count p .novalue =
      raisedBy (s.count p .novalue) ((if p = .b ∨ p = .c then achievedOver live.b (makeBoundary s).latched else 0) +
        lanePostings live (makeBoundary s).latched p .novalue) := by
  obtain ⟨_, _, hb, _⟩ := PlanStore.allLive_eq_some_iff.mp hlive
  have hrange : CountsInRange (shiftSlipStep live (heatedState s)) :=
    (shiftSlipStep_postings _ live).inRange (heatedState_inRange h)
  have hlanes := postLanes_raises hrange live p .novalue
  have hlatched : (shiftSlipStep live (heatedState s)).latched = (makeBoundary s).latched := by simp
  rw [hlatched, shiftSlipStep_novalue, heatedState_novalue h hb] at hlanes
  rw [makeBoundary_eq, State.count, apportionStep_events (live := live) (by rw [heatedState_plan]; exact hlive)]
  refine hlanes.trans ?_
  rw [← makeBoundary_eq]
  by_cases hp : p = .b ∨ p = .c
  · rw [if_pos hp, if_pos hp, raisedBy_raisedBy]
  · rw [if_neg hp, if_neg hp, Nat.zero_add]

end Novalue

/-- Settles O19. -/
theorem boundaryWorksOutCapacities : Obligations.BoundaryWorksOutCapacities := by
  refine ⟨fun s pe pt pb pc g => ?capacities, fun s pe pt pb pc g => ?flags, fun s h => ?novalue⟩
  case capacities =>
    intro t r half he ht hb hc hg
    obtain ⟨u, hset, hlatched, hcap, _, hheat, _, _⟩ := makeBoundary_computes he ht hb hc
    cases hg.symm.trans hset
    have hr : r = u.latched := hlatched
    rw [hr, show t.cap = u.cap from hcap]
    refine ⟨exhaustResult_capacity_zero, fun huse hshift hstale hslip => ?_, retarderResult_capacity_zero,
      fun huse hslip => ?_, fun i => ?_⟩
    · refine ⟨latchedGear u.latched, latchedGear_of_use, latchedGear_of_no_use, ?_⟩
      have heq := exhaustResult_capacity_eq (live := { e := pe, t := pt, b := pb, c := pc }) huse
        (marks_clear hshift hstale hslip)
      obtain ⟨hnovalue, hnewtons⟩ := enduranceCapacity_of_force (exhaustForce (roundingOfCode pe.rounding)
        (curveAt (roundingOfCode pe.rounding) (u.latched.exhaust.fields.rpm : Int) pe.curve) (latchedGear u.latched)
        pt.axleRatio pt.radius) u.latched.exhaust.fields.avail u.latched.exhaust.state
      exact ⟨fun h => heq.trans (hnovalue h), fun f h => heq.trans (hnewtons f h)⟩
    · have heq := retarderResult_capacity_eq (live := { e := pe, t := pt, b := pb, c := pc }) huse hslip
      obtain ⟨hnovalue, hnewtons⟩ := enduranceCapacity_of_force (retarderForce (roundingOfCode pt.rounding)
        (curveAt (roundingOfCode pt.rounding) (u.latched.trans.fields.rpm : Int) pt.curve) pt.axleRatio pt.radius)
        u.latched.trans.fields.avail u.latched.trans.state
      exact ⟨fun h => heq.trans (hnovalue h), fun f h => heq.trans (hnewtons f h)⟩
    · rw [computeSet_service_capacity, show t.heat = u.heat from hheat]
      exact ⟨fun h => serviceCapacity_of_no_use h _,
        fun h => serviceCapacity_of_use (live := { e := pe, t := pt, b := pb, c := pc }) h _⟩
  case flags =>
    intro t r e x he ht hb hc hg
    obtain ⟨u, hset, hlatched, hcap, _, _, _, _⟩ := makeBoundary_computes he ht hb hc
    cases hg.symm.trans hset
    have hr : r = u.latched := hlatched
    rw [hr, show t.cap = u.cap from hcap]
    refine ⟨cutMark_iff, gapMark_iff, agingMark_iff, expiredMark_iff, ?_, rfl, cutMark_iff, rfl, agingMark_iff,
      expiredMark_iff, ?_, rfl, fun i => ?_⟩
    · exact congrArg₂ or (exhaustLanes_capacity_over { e := pe, t := pt, b := pb, c := pc } _)
        (exhaustLanes_achieved_over { e := pe, t := pt, b := pb, c := pc } _)
    · exact congrArg₂ or (retarderLanes_capacity_over { e := pe, t := pt, b := pb, c := pc } _)
        (retarderLanes_achieved_over { e := pe, t := pt, b := pb, c := pc } _)
    · intro f
      have hf : f = (serviceRecord { e := pe, t := pt, b := pb, c := pc } u.latched i _ _).flags :=
        congrArg ActuatorGrant.flags (computeSet_service_get _ u i)
      rw [hf]
      exact ⟨rfl, rfl, rfl, agingMark_iff, expiredMark_iff,
        serviceProduct_over { e := pe, t := pt, b := pb, c := pc } u.latched i⟩
  case novalue =>
    intro t r count achieved product
    have hplan : t.plan = s.plan.copied := makeBoundary_plan s
    rw [hplan]
    refine ⟨makeBoundary_novalue_of_no_b, fun pb hb hmissing p => ?_, fun pe pt pb he ht hb hc => ?_⟩
    · refine makeBoundary_novalue_of_unplanned h hb ?_ p
      rw [← Option.not_isSome_iff_eq_none, PlanStore.allLive_isSome]
      obtain hnone | hnone | hnone := hmissing <;> rw [hnone] <;> simp
    · obtain ⟨pc, hc⟩ := Option.isSome_iff_exists.mp hc
      have hlive : s.plan.copied.allLive = some { e := pe, t := pt, b := pb, c := pc } :=
        PlanStore.allLive_eq_some_iff.mpr ⟨he, ht, hb, hc⟩
      have hcount := makeBoundary_novalue_of_live h hlive
      intro e x b
      refine ⟨(hcount .e).trans (congrArg (raisedBy _) ?_), (hcount .t).trans (congrArg (raisedBy _) ?_),
        (hcount .b).trans (congrArg (raisedBy _) ?_), (hcount .c).trans (congrArg (raisedBy _) ?_)⟩ <;>
        simp only [lanePostings, postedTo, overAxles, achievedOver, e, x, b, achieved, product, r, t]
      · simp
      · simp
      · simp
      · simp
        omega

end Sys2Proof.Machine
end

section
/-! PROOFS. The grants of the set that a boundary begins, and the inputs of its split (chapter 5). -/

namespace Sys2Proof.Machine

open Sys2Proof

/-! ### Endurance grants, by the order of the brakes (R84, R85, R88) -/

section Pair

variable {order d eCap : Nat} {e r : BrakeInput}

/-- A grant is the least of what is left of the demand, the capacity, what is left of the ceiling, and the ramp; its
flags say which of the last two has held it. -/
theorem enduranceGrant_spec (demand capacity ceiling prev step : Nat) :
    let g := enduranceGrant demand capacity ceiling prev step
    g.grant = min (min demand (min capacity ceiling)) (prev + step) ∧
    (g.ramped = true ↔ prev + step < min demand (min capacity ceiling)) ∧
    (g.capped = true ↔ ceiling < demand ∧ ceiling < capacity) := by
  refine ⟨rfl, decide_eq_true_iff, ?_⟩
  rw [enduranceGrant, Bool.and_eq_true, decide_eq_true_iff, decide_eq_true_iff]

theorem endurancePair_exhaustFirst (h : order = 0) :
    (endurancePair order d eCap e r).e = enduranceGrant d e.capacity eCap e.prev e.step ∧
    (endurancePair order d eCap e r).r =
      enduranceGrant (d - (endurancePair order d eCap e r).e.grant) r.capacity
        (eCap - (endurancePair order d eCap e r).e.grant) r.prev r.step := by
  unfold endurancePair
  rw [if_pos h]
  exact ⟨rfl, rfl⟩

theorem endurancePair_retarderFirst (h : order ≠ 0) :
    (endurancePair order d eCap e r).r = enduranceGrant d r.capacity eCap r.prev r.step ∧
    (endurancePair order d eCap e r).e =
      enduranceGrant (d - (endurancePair order d eCap e r).r.grant) e.capacity
        (eCap - (endurancePair order d eCap e r).r.grant) e.prev e.step := by
  unfold endurancePair
  rw [if_neg h]
  exact ⟨rfl, rfl⟩

end Pair

/-! ### Expected forces (R69, R89) -/

section Expected

variable {live : PlanCopy} {r : Reports} {x : Capability} {n : Int} {f grant : Nat} {input : BrakeInput}

theorem exhaustResult_achieved_fresh (h : InUse r.exhaust.state) (hn : r.exhaust.fields.achieved = some n)
    (hf : exhaustForce (roundingOfCode live.e.rounding) n (latchedGear r) live.t.axleRatio live.t.radius = .newtons f) :
    (exhaustResult live r x).achieved = some f := by
  simp [exhaustResult, exhaustLanes_of_use h, hn, hf, laneFresh, Force.orAbsent]

theorem exhaustResult_achieved_none
    (h : ¬InUse r.exhaust.state ∨ r.exhaust.fields.achieved = none ∨
      ∃ n, r.exhaust.fields.achieved = some n ∧
        exhaustForce (roundingOfCode live.e.rounding) n (latchedGear r) live.t.axleRatio live.t.radius = .novalue) :
    (exhaustResult live r x).achieved = none := by
  by_cases huse : InUse r.exhaust.state
  · obtain hnone | ⟨n, hn, hover⟩ := h.resolve_left (not_not.mpr huse)
    · simp [exhaustResult, exhaustLanes_of_use huse, hnone, laneFresh]
    · simp [exhaustResult, exhaustLanes_of_use huse, hn, hover, laneFresh, Force.orAbsent]
  · simp [exhaustResult, exhaustLanes_of_no_use huse, laneFresh]

theorem retarderResult_achieved_fresh (h : InUse r.trans.state) (hn : r.trans.fields.achieved = some n)
    (hf : retarderForce (roundingOfCode live.t.rounding) n live.t.axleRatio live.t.radius = .newtons f) :
    (retarderResult live r x).achieved = some f := by
  simp [retarderResult, retarderLanes_of_use h, hn, hf, laneFresh, Force.orAbsent]

theorem retarderResult_achieved_none
    (h : ¬InUse r.trans.state ∨ r.trans.fields.achieved = none ∨
      ∃ n, r.trans.fields.achieved = some n ∧
        retarderForce (roundingOfCode live.t.rounding) n live.t.axleRatio live.t.radius = .novalue) :
    (retarderResult live r x).achieved = none := by
  by_cases huse : InUse r.trans.state
  · obtain hnone | ⟨n, hn, hover⟩ := h.resolve_left (not_not.mpr huse)
    · simp [retarderResult, retarderLanes_of_use huse, hnone, laneFresh]
    · simp [retarderResult, retarderLanes_of_use huse, hn, hover, laneFresh, Force.orAbsent]
  · simp [retarderResult, retarderLanes_of_no_use huse, laneFresh]

theorem expectedForce_of_achieved (h : input.achieved = some f) : expectedForce grant input = min grant (f + input.step) := by
  rw [expectedForce, h]

theorem expectedForce_of_none (h : input.achieved = none) : expectedForce grant input = grant := by
  rw [expectedForce, h]

end Expected

/-- Settles O20. -/
theorem boundaryComputesTheGrants : Obligations.BoundaryComputesTheGrants := by
  refine ⟨fun s => ?zeros, fun s pe pt pb pc => ?computed⟩
  case zeros =>
    intro t hmissing
    have hplan : t.plan = s.plan.copied := makeBoundary_plan s
    rw [hplan] at hmissing
    refine (makeBoundary_unplanned ?_).1
    rw [← Option.not_isSome_iff_eq_none, PlanStore.allLive_isSome]
    obtain hnone | hnone | hnone | hnone := hmissing <;> rw [hnone] <;> simp
  case computed =>
    intro t r he ht hb hc
    obtain ⟨u, hset, hlatched, hcap, hdemand, _, hplan, happ⟩ := makeBoundary_computes he ht hb hc
    refine ⟨_, hset, ?_⟩
    have hr : r = u.latched := hlatched
    rw [hr, show t.latched = u.latched from hlatched, show t.demand = u.demand from hdemand,
      show t.plan = u.plan from hplan]
    have hprevE : s.app.prevE = u.app.prevE := by rw [happ]
    have hprevR : s.app.prevR = u.app.prevR := by rw [happ]
    have hengine : t.app.engine = u.app.engine := by rw [happ]
    rw [hprevE, hprevR, hengine]
    generalize hlive : ({ e := pe, t := pt, b := pb, c := pc } : PlanCopy) = live
    obtain ⟨rfl, rfl, rfl, rfl⟩ : pe = live.e ∧ pt = live.t ∧ pb = live.b ∧ pc = live.c := by
      subst hlive; exact ⟨rfl, rfl, rfl, rfl⟩
    clear hlive
    intro mass value any total d eCap ge gr ce cr stepE stepR topE topR gear
    have hvalue : value = entryValue := by funext y; cases y <;> rfl
    have hgear : gear = latchedGear u.latched := by
      simp only [gear, latchedGear, isUsable_eq, Bool.or_eq_true, decide_eq_true_eq]
    refine ⟨rfl, rfl, ?_, ?_, rfl, fun horder => ?_, fun horder => ?_, fun n f huse hn hf => ?_, fun h => ?_,
      fun n f huse hn hf => ?_, fun h => ?_, rfl, rfl, ?_, rfl, fun i => ?_⟩
    · simp only [total, any, hvalue]; rfl
    · simp only [any, hvalue]; rfl
    · obtain ⟨hfirst, hsecond⟩ := endurancePair_exhaustFirst (d := d) (eCap := eCap) (e := setExhaust live u)
        (r := setRetarder live u) horder
      obtain ⟨hge, hrampedE, hcappedE⟩ := enduranceGrant_spec d ce eCap u.app.prevE stepE
      obtain ⟨hgr, hrampedR, hcappedR⟩ := enduranceGrant_spec (d - ge) cr (eCap - ge) u.app.prevR stepR
      exact ⟨(congrArg EnduranceGrant.grant hfirst).trans hge, (congrArg EnduranceGrant.grant hsecond).trans hgr,
        (congrArg EnduranceGrant.ramped hfirst ▸ hrampedE :), (congrArg EnduranceGrant.capped hfirst ▸ hcappedE :),
        (congrArg EnduranceGrant.ramped hsecond ▸ hrampedR :), (congrArg EnduranceGrant.capped hsecond ▸ hcappedR :)⟩
    · obtain ⟨hfirst, hsecond⟩ := endurancePair_retarderFirst (d := d) (eCap := eCap) (e := setExhaust live u)
        (r := setRetarder live u) horder
      obtain ⟨hgr, hrampedR, hcappedR⟩ := enduranceGrant_spec d cr eCap u.app.prevR stepR
      obtain ⟨hge, hrampedE, hcappedE⟩ := enduranceGrant_spec (d - gr) ce (eCap - gr) u.app.prevE stepE
      exact ⟨(congrArg EnduranceGrant.grant hfirst).trans hgr, (congrArg EnduranceGrant.grant hsecond).trans hge,
        (congrArg EnduranceGrant.ramped hfirst ▸ hrampedR :), (congrArg EnduranceGrant.capped hfirst ▸ hcappedR :),
        (congrArg EnduranceGrant.ramped hsecond ▸ hrampedE :), (congrArg EnduranceGrant.capped hsecond ▸ hcappedE :)⟩
    · exact expectedForce_of_achieved (exhaustResult_achieved_fresh (x := u.cap) huse hn (hgear ▸ hf))
    · exact expectedForce_of_none (exhaustResult_achieved_none (x := u.cap) (hgear ▸ h))
    · exact expectedForce_of_achieved (retarderResult_achieved_fresh (x := u.cap) huse hn hf)
    · exact expectedForce_of_none (retarderResult_achieved_none (x := u.cap) h)
    · exact congrArg (exhaustTorque ge · live.t.axleRatio live.t.radius) hgear.symm
    · rw [computeSet_service_get]; rfl

/-! ### The inputs of the split (R76, R91, R93) -/

section Inputs

variable {live : PlanCopy} {s : State} {i : Axle}

theorem isFrozen_iff {r : Reports} :
    isFrozen r i = true ↔ i ≠ .drive ∧ InUse r.axles.state ∧ (r.axles.fields.axle.get i).slip = true := by
  rw [isFrozen, Bool.and_eq_true, Bool.and_eq_true, decide_eq_true_iff, isUsable_iff, and_assoc]

theorem axleInput_frozen (room : Nat) :
    (isFrozen s.latched i = true →
      (axleInput live s room i).frozen = some (s.app.published.service.get i).grantN) ∧
    (¬isFrozen s.latched i = true → (axleInput live s room i).frozen = none) :=
  ⟨fun h => if_pos h, fun h => if_neg h⟩

theorem heatMargin_eq (b : PlanB) (temp : Int) :
    (heatMargin b temp : Int) = max 1 ((b.fadeOn : Int) - temp / 65536) :=
  Int.toNat_of_nonneg (le_trans (by decide) (le_max_left _ _))

theorem axleInput_factor (room : Nat) :
    ((axleInput live s room i).factor : Int) =
      ((live.b.axles.get i).baseShare : Int) *
        max 1 ((live.b.fadeOn : Int) - (s.heat.accounts.get i).temp / 65536) := by
  rw [← heatMargin_eq]
  exact Int.natCast_mul _ _

end Inputs

/-- Settles O21. -/
theorem boundarySplitsTheRemainder : Obligations.BoundarySplitsTheRemainder := by
  intro s pe pt pb pc g t axles he ht hb hc hg
  obtain ⟨u, hset, hlatched, _, _, hheat, _, happ⟩ := makeBoundary_computes he ht hb hc
  cases hg.symm.trans hset
  have haxles : axles = u.latched.axles := congrArg Reports.axles hlatched
  have hpublished : s.app.published = u.app.published := by rw [happ]
  rw [haxles, hpublished, show t.heat = u.heat from hheat]
  refine ⟨setInputs { e := pe, t := pt, b := pb, c := pc } u, fun i => ?_, fun i => ?_⟩
  · rw [computeSet_service_get, setInputs_get]
    obtain ⟨hfrozen, hfree⟩ := axleInput_frozen (live := { e := pe, t := pt, b := pb, c := pc }) (s := u) (i := i)
      (setCeiling { e := pe, t := pt, b := pb, c := pc } u - ((setPair { e := pe, t := pt, b := pb, c := pc } u).e.grant +
        (setPair { e := pe, t := pt, b := pb, c := pc } u).r.grant))
    refine ⟨rfl, rfl, axleInput_factor _, fun hi huse hslip => hfrozen (isFrozen_iff.mpr ⟨hi, huse, hslip⟩), fun h => ?_⟩
    refine hfree fun hf => ?_
    obtain ⟨hi, huse, hslip⟩ := isFrozen_iff.mp hf
    obtain hdrive | hout | hclear := h
    · exact hi hdrive
    · exact hout huse
    · exact absurd (hslip.symm.trans hclear) (by decide)
  · rw [computeSet_service_get]
    exact ⟨rfl, rfl, rfl⟩

end Sys2Proof.Machine
end

section
/-! PROOFS. Selection and bytes (chapter 9, R154 to R158): what a port makes of each byte, phase by phase, and of a
whole exchange. -/

namespace Sys2Proof.Machine

open Sys2Proof

/-! ### One byte, phase by phase (R154) -/

theorem highByte_eq (map : KindBits) : highByte map = map.extractLsb' 8 8 := by
  apply BitVec.eq_of_toNat_eq
  simp [highByte, BitVec.extractLsb'_toNat, Nat.shiftRight_eq_div_pow]

theorem lowByte_eq (map : KindBits) : lowByte map = map.extractLsb' 0 8 := by
  apply BitVec.eq_of_toNat_eq
  simp [lowByte]

section TakeByte

variable {x : PortControl} (record : Nat → Nat → Option (List Byte)) {v : Byte}

theorem PortControl.takeByte_fill (h : x.phase = .inPrefix) :
    x.takeByte record 0 = { x with xch := x.xch.counted, dout := .byte (highByte x.bitmap) } := by
  simp [takeByte, h]

theorem PortControl.takeByte_h0 (h : x.phase = .inPrefix) (hv : v ≠ 0) :
    x.takeByte record v =
      { x with xch := { x.xch.counted with h0 := some v }, phase := .inIndex, dout := .byte (highByte x.bitmap) } := by
  simp only [takeByte, h]
  exact if_neg hv

theorem PortControl.takeByte_h1_read (h : x.phase = .inIndex) (hread : x.xch.command = 1) :
    x.takeByte record v =
      { x with
        xch := { x.xch.counted with h1 := some v }, phase := .inWait, snapshot := record x.xch.cls v.toNat,
        dout := .byte (lowByte x.bitmap) } := by
  simp [takeByte, h, hread]

theorem PortControl.takeByte_h1_other (h : x.phase = .inIndex) (hother : x.xch.command ≠ 1) :
    x.takeByte record v =
      { x with
        xch := { x.xch.counted with h1 := some v }, phase := .dataIn, dout := .byte (lowByte x.bitmap) } := by
  simp [takeByte, h, hother]

theorem PortControl.takeByte_wait (h : x.phase = .inWait) :
    x.takeByte record v =
      { x with
        xch := { x.xch.counted with wait := some v }, phase := .readOut,
        dout := .byte (BitVec.ofNat 8 (snapshotLength x.snapshot)) } := by
  simp [takeByte, h]

theorem PortControl.takeByte_readOut (h : x.phase = .readOut) (hv : v ≠ 0xFF#8) :
    x.takeByte record v =
      { x with
        xch := { x.xch.counted with count := x.xch.count + 1 },
        dout := .byte ((x.snapshot.getD []).getD x.xch.count 0) } := by
  simp [takeByte, h, hv]

theorem PortControl.takeByte_termination (h : x.phase = .readOut) :
    x.takeByte record 0xFF#8 =
      { x with
        xch := { x.xch.counted with count := x.xch.count + 1, terminated := true }, phase := .ended,
        dout := .byte ((x.snapshot.getD []).getD x.xch.count 0) } := by
  simp [takeByte, h]

theorem PortControl.takeByte_ended (h : x.phase = .ended) :
    x.takeByte record v = { x with xch := { x.xch.counted with overrun := true }, dout := .byte 0 } := by
  simp [takeByte, h]

theorem PortControl.takeByte_dataIn (h : x.phase = .dataIn) :
    x.takeByte record v = { x with xch := x.xch.counted.withData v, dout := .byte 0 } := by
  simp [takeByte, h]

end TakeByte

theorem Exchange.withData_of_room {x : Exchange} (v : Byte) (h : x.data.length < 33) :
    x.withData v = { x with data := x.data ++ [v], count := x.count + 1 } := by
  simp [withData, Config.maxData, h]

theorem Exchange.withData_of_full {x : Exchange} (v : Byte) (h : 33 ≤ x.data.length) :
    x.withData v = { x with count := x.count + 1 } := by
  simp [withData, Config.maxData, Nat.not_lt.mpr h]

/-! ### The commands of a selection -/

theorem exec_selectAssert (p : Port) (s : State) :
    exec (.selectAssert p) s = .next (
      if (s.port p).sel then s
      else if s.resetHeld then s.setPort p { s.port p with sel := true }
      else s.setPort p ((s.port p).selected (s.events.get p).bitmap)) := rfl

theorem exec_emptyExchange (p : Port) (s : State) :
    exec (.emptyExchange p) s = .next (
      if (s.port p).sel && isEmptyExchange (s.port p).xch then s.setPort p (s.port p).released else s) := rfl

theorem exec_byteTaken (p : Port) (v : Byte) (s : State) :
    exec (.byteTaken p v) s = .next (s.setPort p ((s.port p).takeByte (readRecord s p) v)) := rfl

/-- A port's own controller written back is no change. -/
@[simp] theorem State.setPort_self (s : State) (p : Port) : s.setPort p (s.port p) = s := by
  cases p <;> rfl

/-- Settles O30: with RESET held or the select asserted only its level counts; a release leaves the port at rest. -/
theorem selectOpensAndEmptyExchangeLeavesNoTrace : Obligations.SelectOpensAndEmptyExchangeLeavesNoTrace := by
  refine ⟨fun s p hreset hsel => ?opens, fun s p hreset => ?held, fun s p hsel => ?asserted,
    fun s p hsel hempty => ?closes⟩
  case opens => simp [exec_selectAssert, hreset, hsel, State.setPort, PortControl.selected]
  case held =>
    rw [exec_selectAssert]
    cases hsel : (s.port p).sel with
    | false => simp [hreset, State.setPort]
    | true =>
      have hsame : { s.port p with sel := true } = s.port p := by rw [← hsel]
      rw [hsame]
      exact congrArg _ (State.setPort_self s p).symm
  case asserted => simp [exec_selectAssert, hsel]
  case closes =>
    simp [exec_emptyExchange, hsel, isEmptyExchange, hempty]
    rfl

/-! ### BYTE_TAKEN (R154, R158) -/

theorem snapshotByte_cases (x : PortControl) :
    (∀ record (h : x.xch.count < record.length), x.snapshot = some record →
      (x.snapshot.getD []).getD x.xch.count 0 = record[x.xch.count]) ∧
    (∀ record, x.snapshot = some record → record.length ≤ x.xch.count →
      (x.snapshot.getD []).getD x.xch.count 0 = 0) ∧
    (x.snapshot = none → (x.snapshot.getD []).getD x.xch.count 0 = 0) := by
  refine ⟨fun record h hsnapshot => ?_, fun record hsnapshot h => ?_, fun hsnapshot => ?_⟩
  · simp [hsnapshot, h]
  · simp [hsnapshot, h]
  · simp [hsnapshot]

/-- Settles O31: one equation of `takeByte` for each phase. -/
theorem byteActsByPhase : Obligations.ByteActsByPhase := by
  intro s p v x map taken answers
  have hanswers : ∀ {y : PortControl}, x.takeByte (readRecord s p) v = y → answers y := by
    intro y hy
    exact hy ▸ exec_byteTaken p v s
  refine ⟨fun hphase => ?idle, fun hphase => ⟨fun hv => ?fill, fun hv => ?header⟩,
    fun h0 hphase hh0 => ⟨fun hread => ?read, fun hother => ?other⟩,
    fun hphase => ⟨fun record hsnapshot => ?wait, fun hsnapshot => ?waitNone⟩,
    fun hphase => ⟨_, snapshotByte_cases x, fun hv => ?termination, fun hv => ?readOut⟩, fun hphase => ?ended,
    fun hphase => ⟨fun hroom => ?room, fun hfull => ?full⟩⟩
  case idle => exact hanswers (PortControl.takeByte_idle _ _ _ hphase)
  case fill => subst hv; exact hanswers (by rw [PortControl.takeByte_fill _ hphase, highByte_eq]; rfl)
  case header => exact hanswers (by rw [PortControl.takeByte_h0 _ hphase hv, highByte_eq]; rfl)
  case read =>
    have hcommand : x.xch.command = 1 := (Exchange.command_of_h0 hh0).trans hread
    exact hanswers (by
      rw [PortControl.takeByte_h1_read _ hphase hcommand, Exchange.cls_of_h0 hh0, lowByte_eq]; rfl)
  case other =>
    have hcommand : x.xch.command ≠ 1 := fun h => hother ((Exchange.command_of_h0 hh0).symm.trans h)
    exact hanswers (by rw [PortControl.takeByte_h1_other _ hphase hcommand, lowByte_eq]; rfl)
  case wait => exact hanswers (by rw [PortControl.takeByte_wait _ hphase, hsnapshot]; rfl)
  case waitNone => exact hanswers (by rw [PortControl.takeByte_wait _ hphase, hsnapshot]; rfl)
  case termination => subst hv; exact hanswers (PortControl.takeByte_termination _ hphase)
  case readOut => exact hanswers (PortControl.takeByte_readOut _ hphase hv)
  case ended => exact hanswers (PortControl.takeByte_ended _ hphase)
  case room =>
    exact hanswers (by
      rw [PortControl.takeByte_dataIn _ hphase, Exchange.withData_of_room (x := x.xch.counted) v hroom]; rfl)
  case full =>
    exact hanswers (by
      rw [PortControl.takeByte_dataIn _ hphase, Exchange.withData_of_full (x := x.xch.counted) v hfull]; rfl)

/-! ### A sequence of bytes -/

/-- A port controller after a sequence of bytes. -/
def PortControl.takeBytes (record : Nat → Nat → Option (List Byte)) (bytes : List Byte) (x : PortControl) :
    PortControl :=
  bytes.foldl (fun x v => x.takeByte record v) x

section TakeBytes

variable {record : Nat → Nat → Option (List Byte)} {x : PortControl}

@[simp] theorem PortControl.takeBytes_nil : x.takeBytes record [] = x := rfl

@[simp] theorem PortControl.takeBytes_cons (v : Byte) (bytes : List Byte) :
    x.takeBytes record (v :: bytes) = (x.takeByte record v).takeBytes record bytes := rfl

@[simp] theorem PortControl.takeBytes_append (front back : List Byte) :
    x.takeBytes record (front ++ back) = (x.takeBytes record front).takeBytes record back :=
  List.foldl_append

/-- The status bit, the error count and the last result, which bytes do not touch. -/
def PortControl.SameOutcome (x y : PortControl) : Prop :=
  y.status = x.status ∧ y.errors = x.errors ∧ y.last = x.last

theorem PortControl.SameOutcome.takeByte {y : PortControl} (h : x.SameOutcome y) (v : Byte) :
    x.SameOutcome (y.takeByte record v) :=
  ⟨(takeByte_keeps_status ..).trans h.1, (takeByte_keeps_errors ..).trans h.2.1, (takeByte_keeps_last ..).trans h.2.2⟩

theorem PortControl.SameOutcome.takeBytes {y : PortControl} (h : x.SameOutcome y) (bytes : List Byte) :
    x.SameOutcome (y.takeBytes record bytes) := by
  induction bytes generalizing y with
  | nil => exact h
  | cons v bytes ih => exact ih (h.takeByte v)

end TakeBytes

/-- Of the port controllers, a record shows status bits, error counts and last results alone (R163). -/
theorem readRecord_setPort {s : State} {p : Port} {x : PortControl} (h : (s.port p).SameOutcome x) :
    readRecord (s.setPort p x) p = readRecord s p := by
  obtain ⟨hstatus, herrors, hlast⟩ := h
  have hbytes : sendPortStatus x = sendPortStatus (s.port p) := by
    simp only [sendPortStatus, hstatus, herrors, hlast]
  have hports : ∀ index,
      sendPortStatus (byIndex (s.setPort p x).ports index) = sendPortStatus (byIndex s.ports index) := by
    intro index
    have hport : ∀ q, sendPortStatus ((s.setPort p x).port q) = sendPortStatus (s.port q) := by
      intro q
      by_cases hq : q = p
      · rw [hq, State.port_setPort_same, hbytes]
      · rw [State.port_setPort_other s p x hq]
    match index with
    | 0 => exact hport .e
    | 1 => exact hport .t
    | 2 => exact hport .b
    | _ + 3 => exact hport .c
  funext cls index
  simp only [readRecord, hports]
  rfl

/-- Byte after byte, the port's controller alone changes. -/
theorem execAll_byteTaken {s : State} {p : Port} {x : PortControl} (h : (s.port p).SameOutcome x)
    (bytes : List Byte) :
    execAll (bytes.map (.byteTaken p)) (s.setPort p x) = .next (s.setPort p (x.takeBytes (readRecord s p) bytes)) := by
  induction bytes generalizing x with
  | nil => rfl
  | cons v bytes ih =>
    have hstep : exec (.byteTaken p v) (s.setPort p x) = .next (s.setPort p (x.takeByte (readRecord s p) v)) := by
      rw [exec_byteTaken, readRecord_setPort h, State.port_setPort_same]
      simp [State.setPort]
    simp only [List.map_cons, execAll, hstep]
    exact ih (h.takeByte v)

/-! ### A whole exchange (R154, R158, R159) -/

/-- A port that has taken FILL bytes alone (R156). -/
def PortControl.AwaitsHeader (x : PortControl) : Prop :=
  x.phase = .inPrefix ∧ x.xch = { Exchange.empty with bits := x.xch.bits } ∧ x.xch.bits % 8 = 0

/-- A port that has taken H0 after its FILL bytes. -/
def PortControl.AwaitsIndex (x : PortControl) (h0 : Byte) : Prop :=
  x.phase = .inIndex ∧ x.xch = { Exchange.empty with bits := x.xch.bits, h0 := some h0 } ∧ x.xch.bits % 8 = 0

/-- A port that has taken the header and data bytes of a command other than READ. -/
def PortControl.HasData (x : PortControl) (h0 h1 : Byte) (data : List Byte) : Prop :=
  x.phase = .dataIn ∧ x.xch.bits % 8 = 0 ∧ x.xch.h0 = some h0 ∧ x.xch.h1 = some h1 ∧ x.xch.data = data.take 33 ∧
  x.xch.count = data.length

/-- A port that has taken the header of a READ, the wait byte 0xFF and `count` data bytes. -/
def PortControl.ReadsOut (x : PortControl) (h0 h1 : Byte) (record : List Byte) (count : Nat) : Prop :=
  x.phase = .readOut ∧ x.xch.bits % 8 = 0 ∧ x.xch.h0 = some h0 ∧ x.xch.h1 = some h1 ∧ x.xch.wait = some 0xFF#8 ∧
  x.xch.overrun = false ∧ x.xch.count = count ∧ x.snapshot = some record

/-- A port that has taken the termination byte as data byte number `count`, and nothing after it. -/
def PortControl.HasRead (x : PortControl) (h0 h1 : Byte) (record : List Byte) (count : Nat) : Prop :=
  x.phase = .ended ∧ x.xch.bits % 8 = 0 ∧ x.xch.h0 = some h0 ∧ x.xch.h1 = some h1 ∧ x.xch.wait = some 0xFF#8 ∧
  x.xch.terminated = true ∧ x.xch.overrun = false ∧ x.xch.count = count ∧ x.snapshot = some record

section Whole

variable {record : Nat → Nat → Option (List Byte)} {x : PortControl} {h0 h1 : Byte} {data : List Byte}

theorem PortControl.awaitsHeader_selected (x : PortControl) (bitmap : KindBits) :
    (x.selected bitmap).AwaitsHeader := ⟨rfl, rfl, rfl⟩

theorem PortControl.AwaitsHeader.fills (h : x.AwaitsHeader) (fills : Nat) :
    (x.takeBytes record (List.replicate fills 0)).AwaitsHeader := by
  induction fills generalizing x with
  | zero => exact h
  | succ n ih =>
    obtain ⟨hphase, hempty, hbits⟩ := h
    refine ih (x := x.takeByte record 0) ?_
    rw [takeByte_fill _ hphase, hempty]
    exact ⟨hphase, rfl, by simpa [Exchange.counted] using hbits⟩

theorem PortControl.AwaitsHeader.takeH0 (h : x.AwaitsHeader) (hh0 : h0 ≠ 0) :
    (x.takeByte record h0).AwaitsIndex h0 := by
  obtain ⟨hphase, hempty, hbits⟩ := h
  rw [takeByte_h0 _ hphase hh0, hempty]
  refine ⟨rfl, rfl, ?_⟩
  simp only [Exchange.counted]
  omega

/-- After the two header bytes of a command other than READ. -/
theorem PortControl.AwaitsIndex.other (h : x.AwaitsIndex h0) (hother : h0.toNat / 16 ≠ 1) :
    (x.takeByte record h1).HasData h0 h1 [] := by
  obtain ⟨hphase, hxch, hbits⟩ := h
  have hcommand : x.xch.command ≠ 1 := by rwa [hxch, Exchange.command_of_h0 rfl]
  rw [takeByte_h1_other _ hphase hcommand, hxch]
  refine ⟨rfl, ?_, rfl, rfl, rfl, rfl⟩
  simp only [Exchange.counted]
  omega

/-- After the two header bytes of a READ and the wait byte. -/
theorem PortControl.AwaitsIndex.read {snapshot : List Byte} (h : x.AwaitsIndex h0) (hread : h0.toNat / 16 = 1)
    (hrecord : record (h0.toNat % 16) h1.toNat = some snapshot) :
    ((x.takeByte record h1).takeByte record 0xFF#8).ReadsOut h0 h1 snapshot 0 := by
  obtain ⟨hphase, hxch, hbits⟩ := h
  have hcommand : x.xch.command = 1 := by rwa [hxch, Exchange.command_of_h0 rfl]
  have hcls : x.xch.cls = h0.toNat % 16 := by rw [hxch]; rfl
  rw [takeByte_h1_read _ hphase hcommand, takeByte_wait _ rfl, hcls, hxch]
  refine ⟨rfl, ?_, rfl, rfl, rfl, rfl, rfl, hrecord⟩
  simp only [Exchange.counted]
  omega

theorem PortControl.HasData.byte (h : x.HasData h0 h1 data) (v : Byte) :
    (x.takeByte record v).HasData h0 h1 (data ++ [v]) := by
  obtain ⟨hphase, hbits, hh0, hh1, hdata, hcount⟩ := h
  have hstored : (x.xch.counted.withData v).data = (data ++ [v]).take 33 := by
    have hlength : x.xch.data.length = min 33 data.length := by rw [hdata, List.length_take]
    obtain hroom | hfull := Nat.lt_or_ge data.length 33
    · rw [Exchange.withData_of_room (x := x.xch.counted) v (by simp only [Exchange.counted]; omega)]
      rw [List.take_of_length_le (by simp; omega)]
      simp only [Exchange.counted]
      rw [hdata, List.take_of_length_le (by omega)]
    · rw [Exchange.withData_of_full (x := x.xch.counted) v (by simp only [Exchange.counted]; omega),
        List.take_append_of_le_length hfull]
      exact hdata
  rw [takeByte_dataIn _ hphase]
  refine ⟨hphase, ?_, hh0, hh1, hstored, ?_⟩
  · simp only [Exchange.withData, Exchange.counted]
    omega
  · simp [Exchange.withData, Exchange.counted, hcount]

theorem PortControl.HasData.bytes (h : x.HasData h0 h1 data) (more : List Byte) :
    (x.takeBytes record more).HasData h0 h1 (data ++ more) := by
  induction more generalizing x data with
  | nil => simpa using h
  | cons v more ih => simpa using ih (h.byte v)

theorem PortControl.ReadsOut.bytes {snapshot : List Byte} {count : Nat} (h : x.ReadsOut h0 h1 snapshot count)
    (hdata : 0xFF#8 ∉ data) : (x.takeBytes record data).ReadsOut h0 h1 snapshot (count + data.length) := by
  induction data generalizing x count with
  | nil => exact h
  | cons v data ih =>
    obtain ⟨hv, hrest⟩ := List.ne_and_not_mem_of_not_mem_cons hdata
    obtain ⟨hphase, hbits, hh0, hh1, hwait, hoverrun, hcount, hsnapshot⟩ := h
    have hnext : (x.takeByte record v).ReadsOut h0 h1 snapshot (count + 1) := by
      rw [takeByte_readOut _ hphase hv.symm]
      refine ⟨hphase, ?_, hh0, hh1, hwait, hoverrun, congrArg (· + 1) hcount, hsnapshot⟩
      simp only [Exchange.counted]
      omega
    rw [List.length_cons, Nat.add_comm data.length 1, ← Nat.add_assoc]
    exact ih hnext hrest

theorem PortControl.ReadsOut.termination {snapshot : List Byte} {count : Nat}
    (h : x.ReadsOut h0 h1 snapshot count) : (x.takeByte record 0xFF#8).HasRead h0 h1 snapshot (count + 1) := by
  obtain ⟨hphase, hbits, hh0, hh1, hwait, hoverrun, hcount, hsnapshot⟩ := h
  rw [takeByte_termination _ hphase]
  refine ⟨rfl, ?_, hh0, hh1, hwait, rfl, hoverrun, congrArg (· + 1) hcount, hsnapshot⟩
  simp only [Exchange.counted]
  omega

/-- A whole exchange of a command other than READ. -/
theorem PortControl.AwaitsHeader.exchange (h : x.AwaitsHeader) (fills : Nat) (hh0 : h0 ≠ 0)
    (hother : h0.toNat / 16 ≠ 1) (data : List Byte) :
    (x.takeBytes record (List.replicate fills 0 ++ h0 :: h1 :: data)).HasData h0 h1 data := by
  rw [takeBytes_append, takeBytes_cons, takeBytes_cons]
  exact (((h.fills fills).takeH0 hh0).other hother).bytes data

/-- A whole READ. -/
theorem PortControl.AwaitsHeader.readExchange {snapshot : List Byte} (h : x.AwaitsHeader) (fills : Nat) (hh0 : h0 ≠ 0)
    (hread : h0.toNat / 16 = 1) (hrecord : record (h0.toNat % 16) h1.toNat = some snapshot) (hdata : 0xFF#8 ∉ data) :
    (x.takeBytes record (List.replicate fills 0 ++ h0 :: h1 :: (0xFF#8 :: data ++ [0xFF#8]))).HasRead
      h0 h1 snapshot (data.length + 1) := by
  have hindex : ((x.takeBytes record (List.replicate fills 0)).takeByte record h0).AwaitsIndex h0 :=
    (h.fills fills).takeH0 hh0
  have hreads := ((hindex.read hread hrecord).bytes (record := record) hdata).termination (record := record)
  simpa using hreads

end Whole

/-- A selected port takes bytes as its controller does. -/
theorem execAll_exchange {s : State} {p : Port} (hreset : s.resetHeld = false) (hsel : (s.port p).sel = false)
    (bytes : List Byte) :
    execAll (.selectAssert p :: bytes.map (.byteTaken p)) s =
      .next (s.setPort p (((s.port p).selected (s.events.get p).bitmap).takeBytes (readRecord s p) bytes)) := by
  have hselect : exec (.selectAssert p) s = .next (s.setPort p ((s.port p).selected (s.events.get p).bitmap)) := by
    simp [exec_selectAssert, hsel, hreset]
  simp only [execAll, hselect]
  exact execAll_byteTaken (x := (s.port p).selected (s.events.get p).bitmap) ⟨rfl, rfl, rfl⟩ bytes

/-- Settles O32: the port's controller takes the FILL bytes, the header and the data in turn; nothing else changes. -/
theorem bytesCollectTheExchange : Obligations.BytesCollectTheExchange := by
  intro s p fills h0 h1 hreset hsel hh0 run leaves
  have hrun : ∀ bytes, run bytes = .next (s.setPort p (((s.port p).selected (s.events.get p).bitmap).takeBytes
      (readRecord s p) (List.replicate fills 0 ++ h0 :: h1 :: bytes))) :=
    fun bytes => execAll_exchange hreset hsel _
  have hleaves : ∀ bytes, leaves (s.setPort p (((s.port p).selected (s.events.get p).bitmap).takeBytes
      (readRecord s p) bytes)) := by
    intro bytes
    obtain ⟨hstatus, herrors, hlast⟩ := PortControl.SameOutcome.takeBytes (x := s.port p)
      (y := (s.port p).selected (s.events.get p).bitmap) (record := readRecord s p) ⟨rfl, rfl, rfl⟩ bytes
    refine ⟨rfl, fun q hq => State.port_setPort_other s p _ hq, ?_, ?_, ?_⟩ <;> rw [State.port_setPort_same]
    · exact hstatus
    · exact herrors
    · exact hlast
  have hselected := PortControl.awaitsHeader_selected (s.port p) (s.events.get p).bitmap
  refine ⟨fun hother data => ⟨_, hrun _, ?write, hleaves _⟩,
    fun hread record data hrecord hdata => ⟨_, hrun _, ?read, hleaves _⟩⟩
  case write =>
    rw [Collected, State.port_setPort_same]
    exact hselected.exchange fills hh0 hother data
  case read =>
    rw [CollectedRead, State.port_setPort_same]
    exact hselected.readExchange fills hh0 hread hrecord hdata

end Sys2Proof.Machine
end

section
/-! PROOFS. The release of select (chapter 9, R157 to R162): which command ends an exchange, its port's checks, and what
each exchange leaves whatever its record. -/

namespace Sys2Proof.Machine

open Sys2Proof Sys2Proof.Laws

/-! ### The release commands, each as a release of select (R160) -/

/-- The release commands of a port, with the exchanges that each is for, its port's checks and its block's action. -/
inductive Releases (s : State) (p : Port) (stray : Nat) :
    Instr → (Exchange → Bool) → (Exchange → Option ResultCode) → (Exchange → State → Answer) → Prop
  | read : Releases s p stray (.read p stray) (isCommand 1) (fun x => readFault x (s.port p).snapshot stray)
      (fun _ s => .done s)
  | writeDemand : Releases s p stray (.writeDemand p stray) (isWriteOf 5) (fun x => writeFault p x stray)
      (fun x s => .done (storeDemand x.index x.data s))
  | writeHoldSet : Releases s p stray (.writeHoldSet p stray) (isWriteOf 6) (fun x => writeFault p x stray)
      (fun x s => .done (storeHoldSet x.data s))
  | writeReport : Releases s p stray (.writeReport p stray) (isWriteOf 7) (fun x => writeFault p x stray)
      (fun x s => .done (storeReport x.index x.data s))
  | writePlanStaged : Releases s p stray (.writePlanStaged p stray) (isWriteOf 10) (fun x => writeFault p x stray)
      (takeStaged p)
  | writeSeed : Releases s p stray (.writeSeed p stray) (isWriteOf 12) (fun x => writeFault p x stray) takeSeed
  | writeEventMask : Releases s p stray (.writeEventMask p stray) (isWriteOf 4) (fun x => writeFault p x stray)
      (takeMask p)
  | writePortStatus : Releases s p stray (.writePortStatus p stray) (isWriteOf 2) (fun x => writeFault p x stray)
      (takePortStatus p)
  | write : Releases s p stray (.write p stray) isPlainWrite (fun x => writeFault p x stray) (fun _ s => .done s)
  | commit : Releases s p stray (.commit p stray) (isCommand 3) (fun x => planCommandFault p x stray)
      (fun _ s => takeCommit p s)
  | withdraw : Releases s p stray (.withdraw p stray) (isCommand 4) (fun x => planCommandFault p x stray)
      (fun _ s => takeWithdraw p s)
  | ack : Releases s p stray (.ack p stray) (isCommand 5) (fun x => ackFault p x stray) (takeAck p)
  | restart : Releases s p stray (.restart p stray) (isCommand 6) (fun x => restartFault p x stray)
      (fun _ s => takeRestart s)
  | unknownCommand : Releases s p stray (.unknownCommand p stray) (isUnknownCommand stray)
      (fun x => some (unknownFault x stray)) (fun _ s => .done s)

section Release

variable {s : State} {p : Port} {stray : Nat} {c : Instr} {isKind : Exchange → Bool}
  {fault : Exchange → Option ResultCode} {act : Exchange → State → Answer}

theorem Releases.exec (h : Releases s p stray c isKind fault act) :
    exec c s = .next (releaseExchange p isKind fault act s) := by
  cases h <;> rfl

theorem exists_releases_of_mem
    (h : c ∈ [.read p stray, .writeDemand p stray, .writeHoldSet p stray, .writeReport p stray,
      .writePlanStaged p stray, .writeSeed p stray, .writeEventMask p stray, .writePortStatus p stray, .write p stray,
      .commit p stray, .withdraw p stray, .ack p stray, .restart p stray, .unknownCommand p stray]) :
    ∃ isKind fault act, Releases s p stray c isKind fault act := by
  simp only [List.mem_cons, List.not_mem_nil, or_false] at h
  obtain rfl | rfl | rfl | rfl | rfl | rfl | rfl | rfl | rfl | rfl | rfl | rfl | rfl | rfl := h
  · exact ⟨_, _, _, .read⟩
  · exact ⟨_, _, _, .writeDemand⟩
  · exact ⟨_, _, _, .writeHoldSet⟩
  · exact ⟨_, _, _, .writeReport⟩
  · exact ⟨_, _, _, .writePlanStaged⟩
  · exact ⟨_, _, _, .writeSeed⟩
  · exact ⟨_, _, _, .writeEventMask⟩
  · exact ⟨_, _, _, .writePortStatus⟩
  · exact ⟨_, _, _, .write⟩
  · exact ⟨_, _, _, .commit⟩
  · exact ⟨_, _, _, .withdraw⟩
  · exact ⟨_, _, _, .ack⟩
  · exact ⟨_, _, _, .restart⟩
  · exact ⟨_, _, _, .unknownCommand⟩

/-! ### Which exchange a command ends (R157, R167) -/

/-- The index of a header, 0 where H1 did not arrive. -/
theorem Exchange.index_eq (x : Exchange) : x.index = match x.h1 with | none => 0 | some h1 => h1.toNat := by
  unfold Exchange.index
  cases x.h1 <;> rfl

/-- The classes with no write behaviour of their own, by code. -/
theorem isPlainWrite_iff (x : Exchange) :
    isPlainWrite x = true ↔ x.command = 2 ∧
      (x.cls = 0 ∨ x.cls = 1 ∨ x.cls = 3 ∨ x.cls = 8 ∨ x.cls = 9 ∨ x.cls = 11 ∨ 13 ≤ x.cls ∨
        (x.cls = 5 ∧ 2 ≤ x.index)) := by
  unfold isPlainWrite
  simp only [Bool.and_eq_true, decide_eq_true_eq]
  match x.cls with
  | 0 | 1 | 2 | 3 | 4 | 5 | 6 | 7 | 8 | 9 | 10 | 11 | 12 => simp [classOfCode]
  | n + 13 => simp [classOfCode]

/-- A release command ends an exchange where one of its kind stands open. -/
theorem Releases.endsExchange_iff (h : Releases s p stray c isKind fault act) :
    EndsExchange s p stray c ↔ (s.port p).phase ≠ .idle ∧ isKind (s.port p).xch = true := by
  unfold EndsExchange
  refine and_congr_right fun _ => ?_
  cases hh0 : (s.port p).xch.h0 with
  | none =>
    cases h <;> simp [isCommand, isWriteOf, isPlainWrite, isUnknownCommand, Exchange.command, Exchange.isRagged, hh0]
  | some h0 =>
    cases h with
    | write =>
      cases hh1 : (s.port p).xch.h1 <;> simp [isPlainWrite_iff, Exchange.index, hh0, hh1, commandOf, classOf]
    | unknownCommand =>
      simp only [isUnknownCommand, hh0, Bool.or_eq_true, decide_eq_true_eq]
      simp [commandOf]
    | read | commit | withdraw | ack | restart => simp [isCommand, hh0, commandOf]
    | writeDemand | writeHoldSet | writeReport | writePlanStaged | writeSeed | writeEventMask | writePortStatus =>
      simp [isWriteOf, hh0, commandOf, classOf]

theorem EndsExchange.releases (h : EndsExchange s p stray c) :
    ∃ isKind fault act, Releases s p stray c isKind fault act := by
  apply exists_releases_of_mem
  obtain ⟨_, h⟩ := h
  split at h
  · simp [h.1]
  · obtain ⟨_, rfl⟩ | ⟨_, ⟨_, rfl⟩ | ⟨_, rfl⟩ | ⟨_, rfl⟩ | ⟨_, rfl⟩ | ⟨_, rfl⟩ | ⟨_, rfl⟩ | ⟨_, rfl⟩ | ⟨_, rfl⟩⟩ |
      ⟨_, rfl⟩ | ⟨_, rfl⟩ | ⟨_, rfl⟩ | ⟨_, rfl⟩ | ⟨_, rfl⟩ := h <;> simp

/-! ### The port's checks and the block's answer (R160 to R163) -/

/-- The result codes of a failed exchange. -/
def ResultCode.IsFailure (code : ResultCode) : Prop := code ≠ .ok ∧ code ≠ .seedPartial ∧ code ≠ .none

theorem readFault_isFailure {x : Exchange} {snapshot : Option (List Byte)} {code : ResultCode}
    (h : readFault x snapshot stray = some code) : code.IsFailure := by
  unfold readFault at h
  repeat' split at h
  all_goals cases h
  all_goals simp [ResultCode.IsFailure]

theorem writeFault_isFailure {x : Exchange} {code : ResultCode} (h : writeFault p x stray = some code) :
    code.IsFailure := by
  unfold writeFault at h
  repeat' split at h
  all_goals cases h
  all_goals simp [ResultCode.IsFailure]

theorem planCommandFault_isFailure {x : Exchange} {code : ResultCode} (h : planCommandFault p x stray = some code) :
    code.IsFailure := by
  unfold planCommandFault at h
  repeat' split at h
  all_goals cases h
  all_goals simp [ResultCode.IsFailure]

theorem ackFault_isFailure {x : Exchange} {code : ResultCode} (h : ackFault p x stray = some code) :
    code.IsFailure := by
  unfold ackFault at h
  repeat' split at h
  all_goals cases h
  all_goals simp [ResultCode.IsFailure]

theorem restartFault_isFailure {x : Exchange} {code : ResultCode} (h : restartFault p x stray = some code) :
    code.IsFailure := by
  unfold restartFault at h
  repeat' split at h
  all_goals cases h
  all_goals simp [ResultCode.IsFailure]

theorem unknownFault_isFailure (x : Exchange) : (unknownFault x stray).IsFailure := by
  unfold unknownFault
  split <;> simp [ResultCode.IsFailure]

theorem Releases.fault_isFailure (h : Releases s p stray c isKind fault act) {x : Exchange} {code : ResultCode}
    (hfault : fault x = some code) : code.IsFailure := by
  cases h with
  | read => exact readFault_isFailure hfault
  | writeDemand | writeHoldSet | writeReport | writePlanStaged | writeSeed | writeEventMask | writePortStatus | write =>
    exact writeFault_isFailure hfault
  | commit | withdraw => exact planCommandFault_isFailure hfault
  | ack => exact ackFault_isFailure hfault
  | restart => exact restartFault_isFailure hfault
  | unknownCommand =>
    cases hfault
    exact unknownFault_isFailure x

/-- A partial byte comes before every other check. -/
theorem Releases.fault_of_isRagged (h : Releases s p stray c isKind fault act) {x : Exchange}
    (hragged : x.isRagged stray = true) : fault x = some .framing := by
  cases h with
  | read => simp [readFault, hragged]
  | writeDemand | writeHoldSet | writeReport | writePlanStaged | writeSeed | writeEventMask | writePortStatus | write =>
    simp [writeFault, hragged]
  | commit | withdraw => simp [planCommandFault, hragged]
  | ack => simp [ackFault, hragged]
  | restart => simp [restartFault, hragged]
  | unknownCommand => simp [unknownFault, hragged]

theorem takeStaged_refuse {x : Exchange} {code : ResultCode} {d1 d2 d3 : Nat}
    (h : takeStaged p x s = .refuse code d1 d2 d3) : code = .pending := by
  unfold takeStaged at h
  split at h <;> cases h
  rfl

theorem takeSeed_refuse {x : Exchange} {code : ResultCode} {d1 d2 d3 : Nat}
    (h : takeSeed x s = .refuse code d1 d2 d3) : code = .range := by
  unfold takeSeed at h
  repeat' split at h
  all_goals cases h
  rfl

theorem takeCommit_refuse {code : ResultCode} {d1 d2 d3 : Nat} (h : takeCommit p s = .refuse code d1 d2 d3) :
    code = .pending ∨ code = .invalid := by
  unfold takeCommit at h
  repeat' split at h
  all_goals cases h
  · exact .inl rfl
  · exact .inr rfl

theorem takeWithdraw_refuse {code : ResultCode} {d1 d2 d3 : Nat} (h : takeWithdraw p s = .refuse code d1 d2 d3) :
    code = .state := by
  unfold takeWithdraw at h
  split at h <;> cases h
  rfl

theorem Releases.refuse_isFailure (h : Releases s p stray c isKind fault act) {x : Exchange} {code : ResultCode}
    {d1 d2 d3 : Nat} (hact : act x s = .refuse code d1 d2 d3) : code.IsFailure := by
  cases h with
  | writePlanStaged => simp [takeStaged_refuse hact, ResultCode.IsFailure]
  | writeSeed => simp [takeSeed_refuse hact, ResultCode.IsFailure]
  | commit => obtain rfl | rfl := takeCommit_refuse hact <;> simp [ResultCode.IsFailure]
  | withdraw => simp [takeWithdraw_refuse hact, ResultCode.IsFailure]
  | read | writeDemand | writeHoldSet | writeReport | writeEventMask | writePortStatus | write | ack | restart
  | unknownCommand => cases hact

/-- Of the blocks, that of a WRITE of PORT_STATUS alone reaches a port controller: it clears the error count (R163). -/
theorem Releases.act_ports (h : Releases s p stray c isKind fault act) {x : Exchange} {t : State}
    (hact : act x s = .done t ∨ ∃ n, act x s = .partly t n) :
    t.ports = s.ports ∨ c = .writePortStatus p stray ∧ t.ports = s.ports.set p { s.port p with errors := 0 } := by
  cases h with
  | read | write | unknownCommand | writeHoldSet | writeEventMask | ack =>
    obtain hdone | ⟨n, hpartly⟩ := hact
    · cases hdone
      exact .inl rfl
    · cases hpartly
  | writeDemand =>
    obtain hdone | ⟨n, hpartly⟩ := hact
    · cases hdone
      exact .inl (storeDemand_ports ..)
    · cases hpartly
  | writeReport =>
    obtain hdone | ⟨n, hpartly⟩ := hact
    · cases hdone
      exact .inl (storeReport_ports ..)
    · cases hpartly
  | writePlanStaged =>
    obtain hdone | ⟨n, hpartly⟩ := hact
    · obtain ⟨_, rfl⟩ := takeStaged_done hdone
      exact .inl rfl
    · exact absurd hpartly takeStaged_not_partly
  | writeSeed => exact .inl (takeSeed_acts hact ▸ rfl)
  | writePortStatus =>
    obtain hdone | ⟨n, hpartly⟩ := hact
    · cases hdone
      split
      · exact .inr ⟨rfl, rfl⟩
      · exact .inl rfl
    · cases hpartly
  | commit =>
    obtain hdone | ⟨n, hpartly⟩ := hact
    · obtain ⟨_, rfl⟩ := takeCommit_done hdone
      exact .inl rfl
    · exact absurd hpartly takeCommit_not_partly
  | withdraw =>
    obtain hdone | ⟨n, hpartly⟩ := hact
    · obtain rfl := takeWithdraw_done hdone
      exact .inl rfl
    · exact absurd hpartly takeWithdraw_not_partly
  | restart =>
    obtain hdone | ⟨n, hpartly⟩ := hact
    · cases hdone
      exact .inl (restartTimer_ports _)
    · cases hpartly

/-! ### A failed and a good exchange (R162) -/

/-- A failed exchange in the statements' terms. -/
theorem failExchange_eq (p : Port) (code : ResultCode) (d1 d2 d3 : Nat) (s : State) :
    failExchange p code d1 d2 d3 s = { s with
      ports := s.ports.set p ((s.port p).atRest false (min 255 ((s.port p).errors + 1))
        (resultOf (s.port p).xch code d1 d2 d3)) } := rfl

theorem resultOf_of_h0 {x : Exchange} {h0 : Byte} (h : x.h0 = some h0) (code : ResultCode) (d1 d2 d3 : Nat) :
    resultOf x code d1 d2 d3 =
      { command := h0.toNat / 16, cls := h0.toNat % 16, index := x.index, code := code, detail1 := d1,
        detail2 := d2, detail3 := d3 } := by
  simp [resultOf, h, commandOf, classOf]

/-- A command for the exchange that stands open at its port, where a check of the port fails. -/
theorem Releases.exec_fails (h : Releases s p stray c isKind fault act) (hphase : (s.port p).phase ≠ .idle)
    (hkind : isKind (s.port p).xch = true) {code : ResultCode} (hfault : fault (s.port p).xch = some code) :
    Machine.exec c s = .next (failExchange p code 0 0 0 s) := by
  simp [h.exec, releaseExchange, hphase, hkind, hfault]

theorem isCommand_of_h0 {x : Exchange} {h0 : Byte} (h : x.h0 = some h0) {code : Nat} (hcode : h0.toNat / 16 = code) :
    isCommand code x = true := by
  simp [isCommand, h, commandOf, hcode]

theorem isWriteOf_of_h0 {x : Exchange} {h0 : Byte} (h : x.h0 = some h0) (hcommand : h0.toNat / 16 = 2) {cls : Nat}
    (hcls : h0.toNat % 16 = cls) : isWriteOf cls x = true := by
  simp [isWriteOf, h, commandOf, classOf, hcommand, hcls]

theorem isUnknownCommand_of_h0 {x : Exchange} {h0 : Byte} (h : x.h0 = some h0)
    (hcommand : h0.toNat / 16 = 0 ∨ 7 ≤ h0.toNat / 16) : isUnknownCommand stray x = true := by
  simp only [isUnknownCommand, h, Bool.or_eq_true, decide_eq_true_eq]
  exact hcommand

/-- A port after a release that ended its exchange (R155). -/
def PortControl.IsReleased (x : PortControl) : Prop := x.phase = .idle ∧ x.dout = .highZ ∧ x.sel = false

/-- A good exchange: OK or SEED_PARTIAL, status 1, and the error count as it was, but for a WRITE of PORT_STATUS. -/
def EndsGood (s : State) (p : Port) (stray : Nat) (c : Instr) (t : State) : Prop :=
  ((t.port p).last.code = .ok ∨ (t.port p).last.code = .seedPartial) ∧ (t.port p).status = true ∧
  ((t.port p).errors = (s.port p).errors ∨ (c = .writePortStatus p stray ∧ (t.port p).errors = 0))

/-- A failed exchange: another code, status 0, the error count one up, and nothing but the port changed. -/
def EndsFailed (s : State) (p : Port) (t : State) : Prop :=
  (t.port p).last.code ≠ .ok ∧ (t.port p).last.code ≠ .seedPartial ∧ (t.port p).last.code ≠ .none ∧
  (t.port p).status = false ∧ (t.port p).errors = min 255 ((s.port p).errors + 1) ∧
  t = { s with ports := s.ports.set p (t.port p) }

/-- What a release that ended its port's exchange leaves. -/
def EndsWhole (s : State) (p : Port) (stray : Nat) (c : Instr) (t : State) : Prop :=
  (∀ q, q ≠ p → t.port q = s.port q) ∧ (t.port p).IsReleased ∧ (EndsGood s p stray c t ∨ EndsFailed s p t)

theorem failExchange_endsWhole {code : ResultCode} (hcode : code.IsFailure) (d1 d2 d3 : Nat) (c : Instr) (s : State) :
    EndsWhole s p stray c (failExchange p code d1 d2 d3 s) := by
  have hport : (failExchange p code d1 d2 d3 s).port p = (s.port p).failed code d1 d2 d3 := State.port_setPort_same ..
  obtain ⟨hok, hpartial, hnone⟩ := hcode
  refine ⟨fun q hq => State.port_setPort_other _ _ _ hq, ?_, .inr ?_⟩
  · rw [hport]
    exact ⟨rfl, rfl, rfl⟩
  · rw [EndsFailed, hport]
    exact ⟨hok, hpartial, hnone, rfl, rfl, rfl⟩

theorem passExchange_endsWhole {code : ResultCode} (hcode : code = .ok ∨ code = .seedPartial) (d1 : Nat) {t : State}
    (hports : t.ports = s.ports ∨
      c = .writePortStatus p stray ∧ t.ports = s.ports.set p { s.port p with errors := 0 }) :
    EndsWhole s p stray c (passExchange p code d1 t) := by
  have hport : (passExchange p code d1 t).port p = (t.port p).passed code d1 := State.port_setPort_same ..
  have hother : ∀ q, q ≠ p → t.port q = s.port q := by
    intro q hq
    obtain h | ⟨_, h⟩ := hports
    · rw [State.port, h, State.port]
    · rw [State.port, h, PerPort.get_set_other _ _ hq, State.port]
  have herrors : (t.port p).errors = (s.port p).errors ∨ (c = .writePortStatus p stray ∧ (t.port p).errors = 0) := by
    obtain h | ⟨hc, h⟩ := hports
    · exact .inl (by rw [State.port, h, State.port])
    · exact .inr ⟨hc, by rw [State.port, h, PerPort.get_set_same]⟩
  refine ⟨fun q hq => (State.port_setPort_other _ _ _ hq).trans (hother q hq), ?_, .inl ?_⟩
  · rw [hport]
    exact ⟨rfl, rfl, rfl⟩
  · rw [EndsGood, hport]
    exact ⟨hcode, rfl, herrors⟩

/-- A release of the kind that stands open at its port ends the exchange whole. -/
theorem Releases.endsWhole (h : Releases s p stray c isKind fault act) (hphase : (s.port p).phase ≠ .idle)
    (hkind : isKind (s.port p).xch = true) : EndsWhole s p stray c (releaseExchange p isKind fault act s) := by
  obtain ⟨hclosed, _⟩ | ⟨_, _, ⟨code, hfault, ht⟩ | ⟨_, ⟨t, hact, ht⟩ | ⟨t, n, hact, ht⟩ |
    ⟨code, d1, d2, d3, hact, ht⟩⟩⟩ := releaseExchange_cases p isKind fault act s
  · simp [hphase, hkind] at hclosed
  · rw [ht]
    exact failExchange_endsWhole (h.fault_isFailure hfault) 0 0 0 c s
  · rw [ht]
    exact passExchange_endsWhole (.inl rfl) 0 (h.act_ports (.inl hact))
  · rw [ht]
    exact passExchange_endsWhole (.inr rfl) n (h.act_ports (.inr ⟨n, hact⟩))
  · rw [ht]
    exact failExchange_endsWhole (h.refuse_isFailure hact) d1 d2 d3 c s

end Release

/-- Settles O43: the number of bits is the first check of every release. -/
theorem partialBytesFailFraming : Obligations.PartialBytesFailFraming := by
  intro s p stray h0 hphase hh0 hbits command cls index fails
  have hragged : (s.port p).xch.isRagged stray = true := decide_eq_true hbits
  have hfails : ∀ {c isKind fault act}, Releases s p stray c isKind fault act → isKind (s.port p).xch = true →
      fails c := by
    intro c isKind fault act hc hkind
    have hindex : (s.port p).xch.index = index := Exchange.index_eq _
    simp only [fails, hc.exec_fails hphase hkind (hc.fault_of_isRagged hragged), failExchange_eq,
      resultOf_of_h0 hh0, hindex]
    rfl
  refine ⟨fun h => hfails .read (isCommand_of_h0 hh0 h), fun h => ⟨fun hcls => hfails .writeDemand ?_,
    fun hcls => hfails .writeHoldSet ?_, fun hcls => hfails .writeReport ?_, fun hcls => hfails .writePlanStaged ?_,
    fun hcls => hfails .writeSeed ?_, fun hcls => hfails .writeEventMask ?_, fun hcls => hfails .writePortStatus ?_,
    fun hcls => hfails .write ?plain⟩, fun h => hfails .commit (isCommand_of_h0 hh0 h),
    fun h => hfails .withdraw (isCommand_of_h0 hh0 h), fun h => hfails .ack (isCommand_of_h0 hh0 h),
    fun h => hfails .restart (isCommand_of_h0 hh0 h), fun h => hfails .unknownCommand (isUnknownCommand_of_h0 hh0 h)⟩
  case plain =>
    rw [isPlainWrite_iff, Exchange.command_of_h0 hh0, Exchange.cls_of_h0 hh0]
    change command = 2 ∧ (cls = 0 ∨ cls = 1 ∨ cls = 3 ∨ cls = 8 ∨ cls = 9 ∨ cls = 11 ∨ 13 ≤ cls ∨ cls = 5 ∧ _)
    exact ⟨h, by omega⟩
  all_goals exact isWriteOf_of_h0 hh0 h hcls

/-- Settles O44: a release does nothing, fails whole, or passes with the answer of its block, which leaves the port
controllers but for the error count that a WRITE of PORT_STATUS clears. -/
theorem exchangesActWholeOrNotAtAll : Obligations.ExchangesActWholeOrNotAtAll := by
  refine ⟨fun s t p q v c hq hc ht => ?selection, fun s t p stray c hc ht => ?release⟩
  case selection =>
    simp only [List.mem_cons, List.not_mem_nil, or_false] at hc
    obtain rfl | rfl | rfl := hc
    · cases ht
      split
      · rfl
      · split <;> exact State.port_setPort_other _ _ _ hq
    · cases ht
      split
      · exact State.port_setPort_other _ _ _ hq
      · rfl
    · cases ht
      exact State.port_setPort_other _ _ _ hq
  case release =>
    obtain ⟨isKind, fault, act, hreleases⟩ := exists_releases_of_mem hc
    rw [hreleases.exec] at ht
    injection ht with ht
    subst ht
    rw [hreleases.endsExchange_iff]
    by_cases hopen : (s.port p).phase ≠ .idle ∧ isKind (s.port p).xch = true
    · obtain ⟨hother, ⟨hphase, hdout, hsel⟩, hends⟩ := hreleases.endsWhole hopen.1 hopen.2
      exact ⟨hother, fun h => absurd hopen h, fun _ => ⟨hphase, hdout, hsel, hends⟩⟩
    · have hclosed : (s.port p).phase = .idle ∨ isKind (s.port p).xch = false := by
        rwa [not_and_or, not_not, Bool.not_eq_true] at hopen
      have hstays : releaseExchange p isKind fault act s = s := if_pos hclosed
      rw [hstays]
      exact ⟨fun _ _ => rfl, fun _ => rfl, fun h => absurd h hopen⟩

/-! ### READ (R157, R158, R161) -/

section Read

variable {x : Exchange} {snapshot : Option (List Byte)} {stray : Nat}

theorem readFault_wait (hwhole : x.isRagged stray = false) (hwait : x.wait ≠ some 0xFF#8) :
    readFault x snapshot stray = some .wait := by
  simp [readFault, hwhole, hwait]

theorem readFault_unterminated (hwhole : x.isRagged stray = false) (hwait : x.wait = some 0xFF#8)
    (hterminated : x.terminated = false) : readFault x snapshot stray = some .unterminated := by
  simp [readFault, hwhole, hwait, hterminated]

theorem readFault_overrun (hwhole : x.isRagged stray = false) (hwait : x.wait = some 0xFF#8)
    (hterminated : x.terminated = true) (hpast : (x.overrun || pastSnapshot x snapshot) = true) :
    readFault x snapshot stray = some .overrun := by
  simp [readFault, hwhole, hwait, hterminated, hpast]

/-- A READ with all its bytes in order, whose header names a record that may be read. -/
theorem readFault_eq_none (hwhole : x.isRagged stray = false) (hwait : x.wait = some 0xFF#8)
    (hterminated : x.terminated = true) (hwithin : (x.overrun || pastSnapshot x snapshot) = false) {k : RecordClass}
    {i : Nat} (hrecord : x.record = some (k, i)) (hk : k ≠ .seed) : readFault x snapshot stray = none := by
  simp [readFault, hwhole, hwait, hterminated, hwithin, hrecord, hk]

/-- One whose header names none. -/
theorem readFault_unknown (hwhole : x.isRagged stray = false) (hwait : x.wait = some 0xFF#8)
    (hterminated : x.terminated = true) (hwithin : (x.overrun || pastSnapshot x snapshot) = false)
    (hrecord : ∀ k i, x.record = some (k, i) → k = .seed) : readFault x snapshot stray = some .unknown := by
  cases h : x.record with
  | none => simp [readFault, hwhole, hwait, hterminated, hwithin, h]
  | some named => simp [readFault, hwhole, hwait, hterminated, hwithin, h, hrecord named.1 named.2 h]

theorem pastSnapshot_eq_true_iff :
    pastSnapshot x snapshot = true ↔ ∃ record, snapshot = some record ∧ record.length < x.count := by
  cases snapshot <;> simp [pastSnapshot]

theorem pastSnapshot_eq_false (h : ∀ record, snapshot = some record → x.count ≤ record.length) :
    pastSnapshot x snapshot = false := by
  rw [← Bool.not_eq_true, pastSnapshot_eq_true_iff]
  rintro ⟨record, hrecord, hlt⟩
  exact absurd (h record hrecord) (Nat.not_le.mpr hlt)

/-- The record that a header names (R157). -/
theorem Exchange.record_eq_some_iff {k : RecordClass} {i : Nat} :
    x.record = some (k, i) ↔
      classOfCode x.cls = some k ∧ ∃ h1, x.h1 = some h1 ∧ h1.toNat ≤ lastIndex k ∧ h1.toNat = i := by
  cases hcls : classOfCode x.cls <;> cases hh1 : x.h1 <;> simp [record, hcls, hh1]
  grind

end Read

section ReadExchange

variable {s : State} {p : Port} {stray : Nat} {h0 : Byte}

/-- A READ that passes its port's checks changes its port alone. -/
theorem exec_read_passes (hphase : (s.port p).phase ≠ .idle) (hh0 : (s.port p).xch.h0 = some h0)
    (hread : h0.toNat / 16 = 1) (hfault : readFault (s.port p).xch (s.port p).snapshot stray = none) :
    exec (.read p stray) s = .next (passExchange p .ok 0 s) := by
  simp [Releases.read.exec, releaseExchange, hphase, isCommand_of_h0 hh0 hread, hfault, settleExchange]

/-- A READ that fails a check of its port. -/
theorem exec_read_fails (hphase : (s.port p).phase ≠ .idle) (hh0 : (s.port p).xch.h0 = some h0)
    (hread : h0.toNat / 16 = 1) {code : ResultCode}
    (hfault : readFault (s.port p).xch (s.port p).snapshot stray = some code) :
    exec (.read p stray) s = .next (failExchange p code 0 0 0 s) :=
  Releases.read.exec_fails hphase (isCommand_of_h0 hh0 hread) hfault

/-- A good READ as the statements have it. -/
theorem exec_read_collected {h1 : Byte} {record : List Byte} {count : Nat} {k : RecordClass}
    (h : CollectedRead s p h0 h1 record count) (hread : h0.toNat / 16 = 1)
    (hcls : classOfCode (h0.toNat % 16) = some k) (hk : k ≠ .seed) (hindex : h1.toNat ≤ lastIndex k)
    (hcount : count ≤ record.length) : exec (.read p 0) s = .next (s.withGood p h0 h1 .ok 0) := by
  obtain ⟨hphase, hbits, hh0, hh1, hwait, hterminated, hoverrun, hgot, hsnapshot⟩ := h
  have hpast : pastSnapshot (s.port p).xch (s.port p).snapshot = false := by
    simp [pastSnapshot, hsnapshot, hgot, hcount]
  have hrecord : (s.port p).xch.record = some (k, h1.toNat) := by
    rw [Exchange.record_eq_some_iff, Exchange.cls_of_h0 hh0]
    exact ⟨hcls, h1, hh1, hindex, rfl⟩
  have hfault : readFault (s.port p).xch (s.port p).snapshot 0 = none :=
    readFault_eq_none (Exchange.isRagged_eq_false hbits) hwait hterminated (by simp [hoverrun, hpast]) hrecord hk
  have hlast : resultOf (s.port p).xch .ok 0 0 0 = headerResult h0 h1 .ok 0 0 0 := by
    rw [resultOf_of_h0 hh0, Exchange.index_of_h1 hh1]
    rfl
  rw [exec_read_passes (by simp [hphase]) hh0 hread hfault, passExchange, PortControl.passed, hlast]
  rfl

end ReadExchange

/-- Settles O33: the checks of a READ in their order. -/
theorem readCompletesOrFailsInOrder : Obligations.ReadCompletesOrFailsInOrder := by
  refine ⟨fun s p h0 h1 record count k h hread hcls hk hindex hcount =>
    exec_read_collected h hread hcls hk hindex hcount, fun s p stray h0 hphase hh0 hread => ?_⟩
  intro x index fails
  have hfails : ∀ {code}, readFault x (s.port p).snapshot stray = some code → fails code := by
    intro code hfault
    have hindex : x.index = index := Exchange.index_eq _
    simp only [fails, exec_read_fails hphase hh0 hread hfault, failExchange_eq, resultOf_of_h0 hh0, hread, ← hindex]
    rfl
  have hwhole : (x.bits + stray) % 8 = 0 → x.isRagged stray = false := Exchange.isRagged_eq_false
  refine ⟨fun hbits => hfails ?framing, fun hbits hwait => hfails (readFault_wait (hwhole hbits) hwait),
    fun hbits hwait hterminated => hfails (readFault_unterminated (hwhole hbits) hwait hterminated),
    fun hbits hwait hterminated hpast => hfails (readFault_overrun (hwhole hbits) hwait hterminated ?overrun),
    fun hbits hwait hterminated hoverrun hcount hunknown =>
      hfails (readFault_unknown (hwhole hbits) hwait hterminated ?within ?unknown)⟩
  case framing =>
    have hragged : x.isRagged stray = true := decide_eq_true hbits
    simp [readFault, hragged]
  case overrun => rwa [Bool.or_eq_true, pastSnapshot_eq_true_iff]
  case within => simp [hoverrun, pastSnapshot_eq_false hcount]
  case unknown =>
    intro k i hrecord
    obtain ⟨hcls, h1, hh1, hwithin, _⟩ := Exchange.record_eq_some_iff.mp hrecord
    rw [Exchange.cls_of_h0 hh0] at hcls
    have hindex : index = h1.toNat := by simp only [index, hh1]
    obtain hmissing | hnone | hseed | ⟨k', hk', hpast⟩ := hunknown
    · simp [hh1] at hmissing
    · cases hcls.symm.trans hnone
    · rw [classOf, hseed] at hcls
      cases hcls
      rfl
    · cases hcls.symm.trans hk'
      omega

/-! ### The checks of a WRITE in their order (R161) -/

/-- The number of data bytes that came is the one that the record requires, or any, where it requires none. -/
def Exchange.Fits (x : Exchange) (k : RecordClass) (i : Nat) : Prop :=
  ∃ required, writeLength k i x.data = some required ∧ (required = none ∨ required = some x.count)

section Write

variable {p : Port} {x : Exchange} {stray : Nat} {k : RecordClass} {i : Nat}

theorem writeFault_unknown (hwhole : x.isRagged stray = false) (hrecord : x.record = none) :
    writeFault p x stray = some .unknown := by
  simp [writeFault, hwhole, hrecord]

theorem writeFault_length (hwhole : x.isRagged stray = false) (hrecord : x.record = some (k, i)) (hfits : ¬x.Fits k i) :
    writeFault p x stray = some .length := by
  cases hlength : writeLength k i x.data with
  | none => simp [writeFault, hwhole, hrecord, hlength]
  | some required =>
    have hother : required ≠ none ∧ required ≠ some x.count := by
      rw [← not_or]
      exact fun h => hfits ⟨required, hlength, h⟩
    simp [writeFault, hwhole, hrecord, hlength, hother]

/-- Where the length fits, the writer is the last check. -/
theorem writeFault_of_fits (hwhole : x.isRagged stray = false) (hrecord : x.record = some (k, i)) (hfits : x.Fits k i) :
    writeFault p x stray = if writerOf k i ≠ some p then some .owner else none := by
  obtain ⟨required, hlength, rfl | rfl⟩ := hfits <;> simp [writeFault, hwhole, hrecord, hlength]

end Write

/-! ### Exchanges that name no record (R157, R161) -/

/-- The pairings of command and record that the port controllers let through, READ apart (R157). -/
def Exchange.IsPermitted (x : Exchange) : Prop :=
  (x.command = 2 ∧ x.record ≠ none) ∨ ((x.command = 3 ∨ x.command = 4) ∧ ∃ i, x.record = some (.planStaged, i)) ∨
  (x.command = 5 ∧ ∃ i, x.record = some (.events, i)) ∨ (x.command = 6 ∧ x.cls = 0 ∧ x.h1 = some 0#8)

section Unknown

variable {s : State} {p : Port} {stray : Nat} {c : Instr} {isKind : Exchange → Bool}
  {fault : Exchange → Option ResultCode} {act : Exchange → State → Answer} {x : Exchange}

theorem isWriteOf_command {code : Nat} (h : isWriteOf code x = true) : x.command = 2 := by
  simp only [isWriteOf, Bool.and_eq_true, decide_eq_true_eq] at h
  exact h.1

theorem isCommand_command {code : Nat} (h : isCommand code x = true) : x.command = code := by
  simp only [isCommand, Bool.and_eq_true, decide_eq_true_eq] at h
  exact h.1

theorem planCommandFault_unknown (hwhole : x.isRagged stray = false)
    (hrecord : ¬∃ i, x.record = some (.planStaged, i)) :
    planCommandFault p x stray = some .unknown := by
  simp only [planCommandFault, hwhole]
  split
  · contradiction
  · split
    · exact absurd ⟨_, ‹_›⟩ hrecord
    · rfl

theorem ackFault_unknown (hwhole : x.isRagged stray = false) (hrecord : ¬∃ i, x.record = some (.events, i)) :
    ackFault p x stray = some .unknown := by
  simp only [ackFault, hwhole]
  split
  · contradiction
  · split
    · exact absurd ⟨_, ‹_›⟩ hrecord
    · rfl

theorem restartFault_unknown (hwhole : x.isRagged stray = false) (hheader : ¬(x.cls = 0 ∧ x.h1 = some 0#8)) :
    restartFault p x stray = some .unknown := by
  rw [not_and_or] at hheader
  simp [restartFault, hwhole, hheader]

/-- Every command but READ fails UNKNOWN on an exchange that is not permitted. -/
theorem Releases.fault_unknown (h : Releases s p stray c isKind fault act) (hkind : isKind x = true)
    (hwhole : x.isRagged stray = false) (hcommand : x.command ≠ 1) (hnot : ¬x.IsPermitted) :
    fault x = some .unknown := by
  simp only [Exchange.IsPermitted, not_or, not_and, not_not] at hnot
  obtain ⟨hwrite, hplan, hack, hrestart⟩ := hnot
  cases h with
  | read => exact absurd (isCommand_command hkind) hcommand
  | writeDemand | writeHoldSet | writeReport | writePlanStaged | writeSeed | writeEventMask | writePortStatus =>
    exact writeFault_unknown hwhole (hwrite (isWriteOf_command hkind))
  | write => exact writeFault_unknown hwhole (hwrite ((isPlainWrite_iff x).mp hkind).1)
  | commit => exact planCommandFault_unknown hwhole (hplan (.inl (isCommand_command hkind)))
  | withdraw => exact planCommandFault_unknown hwhole (hplan (.inr (isCommand_command hkind)))
  | ack => exact ackFault_unknown hwhole (hack (isCommand_command hkind))
  | restart => exact restartFault_unknown hwhole fun h => hrestart (isCommand_command hkind) h.1 h.2
  | unknownCommand => simp [unknownFault, hwhole]

/-- The ranges of the classes by their codes (R157). -/
theorem classOfCode_range {cls : Nat} {k : RecordClass} (h : classOfCode cls = some k) :
    1 ≤ cls ∧ cls ≤ 12 ∧ lastIndex k = [0, 0, 3, 3, 3, 2, 0, 3, 5, 2, 10, 10, 0].getD cls 0 := by
  match cls with
  | 0 => cases h
  | 1 | 2 | 3 | 4 | 5 | 6 | 7 | 8 | 9 | 10 | 11 | 12 => cases h; decide
  | n + 13 => cases h

theorem classOfCode_injective {cls cls' : Nat} {k : RecordClass} (h : classOfCode cls = some k)
    (h' : classOfCode cls' = some k) : cls = cls' := by
  have hcode : ∀ {n}, classOfCode n = some k → n = k.ctorIdx + 1 := by
    intro n hn
    match n with
    | 0 => cases hn
    | 1 | 2 | 3 | 4 | 5 | 6 | 7 | 8 | 9 | 10 | 11 | 12 => cases hn; rfl
    | n + 13 => cases hn
  exact (hcode h).trans (hcode h').symm

/-- A failed exchange whose header is known, in the statements' terms. -/
theorem failExchange_eq_withBad {h0 h1 : Byte} (hcommand : (s.port p).xch.command = h0.toNat / 16)
    (hcls : (s.port p).xch.cls = h0.toNat % 16) (hindex : (s.port p).xch.index = h1.toNat) (code : ResultCode)
    (d1 d2 d3 : Nat) : failExchange p code d1 d2 d3 s = s.withBad p h0 h1 code d1 d2 d3 := by
  rw [failExchange_eq, resultOf, hcommand, hcls, hindex]
  rfl

/-- An exchange that stands open and is not permitted, at the command that ends it. -/
theorem exec_unknown (hends : EndsExchange s p 0 c) (hbits : (s.port p).xch.bits % 8 = 0)
    (hcommand : (s.port p).xch.command ≠ 1) (hnot : ¬(s.port p).xch.IsPermitted) :
    exec c s = .next (failExchange p .unknown 0 0 0 s) := by
  obtain ⟨isKind, fault, act, hc⟩ := hends.releases
  obtain ⟨hphase, hkind⟩ := hc.endsExchange_iff.mp hends
  exact hc.exec_fails hphase hkind (hc.fault_unknown hkind (Exchange.isRagged_eq_false hbits) hcommand hnot)

/-- The permitted exchanges by their headers, as the statements list them. -/
theorem collected_isPermitted {h0 h1 : Byte} {data : List Byte} (h : Collected s p h0 h1 data)
    (hpermitted : (s.port p).xch.IsPermitted) :
    (h0.toNat / 16 = 2 ∧ 1 ≤ h0.toNat % 16 ∧ h0.toNat % 16 ≤ 12 ∧
        h1.toNat ≤ [0, 0, 3, 3, 3, 2, 0, 3, 5, 2, 10, 10, 0].getD (h0.toNat % 16) 0) ∨
      ((h0.toNat / 16 = 3 ∨ h0.toNat / 16 = 4) ∧ h0.toNat % 16 = 10 ∧ h1.toNat ≤ 10) ∨
      (h0.toNat / 16 = 5 ∧ h0.toNat % 16 = 3 ∧ h1.toNat ≤ 3) ∨
      (h0.toNat / 16 = 6 ∧ h0.toNat % 16 = 0 ∧ h1.toNat = 0) := by
  have hnamed : ∀ {k i}, (s.port p).xch.record = some (k, i) →
      classOfCode (h0.toNat % 16) = some k ∧ h1.toNat ≤ lastIndex k := by
    intro k i hrecord
    obtain ⟨hcls, h1', hh1, hindex, _⟩ := Exchange.record_eq_some_iff.mp hrecord
    rw [collected_h1 h] at hh1
    cases hh1
    exact ⟨collected_cls h ▸ hcls, hindex⟩
  simp only [Exchange.IsPermitted, collected_command h, collected_cls h, collected_h1 h] at hpermitted
  obtain ⟨hcommand, hrecord⟩ | ⟨hcommand, i, hrecord⟩ | ⟨hcommand, i, hrecord⟩ | ⟨hcommand, hcls, hindex⟩ := hpermitted
  · obtain ⟨⟨k, i⟩, hrecord⟩ := Option.ne_none_iff_exists'.mp hrecord
    obtain ⟨hcls, hindex⟩ := hnamed hrecord
    obtain ⟨hlow, hhigh, hlast⟩ := classOfCode_range hcls
    exact .inl ⟨hcommand, hlow, hhigh, hlast ▸ hindex⟩
  · obtain ⟨hcls, hindex⟩ := hnamed hrecord
    exact .inr (.inl ⟨hcommand, classOfCode_injective hcls rfl, hindex⟩)
  · obtain ⟨hcls, hindex⟩ := hnamed hrecord
    exact .inr (.inr (.inl ⟨hcommand, classOfCode_injective hcls rfl, hindex⟩))
  · cases hindex
    exact .inr (.inr (.inr ⟨hcommand, hcls, rfl⟩))

end Unknown

/-! ### Records that no port may write (R157, R161) -/

/-- The records without a writer take any number of data bytes. -/
theorem unownedRecord {cls index : Nat}
    (h : (cls = 1 ∧ index = 0) ∨ (cls = 3 ∧ index ≤ 3) ∨ (cls = 5 ∧ index = 2) ∨ (cls = 8 ∧ index ≤ 5) ∨
      (cls = 9 ∧ index ≤ 2) ∨ (cls = 11 ∧ index ≤ 10)) :
    ∃ k, classOfCode cls = some k ∧ index ≤ lastIndex k ∧ writerOf k index = none ∧
      ∀ data, writeLength k index data = some none := by
  obtain ⟨rfl, hindex⟩ | ⟨rfl, hindex⟩ | ⟨rfl, rfl⟩ | ⟨rfl, hindex⟩ | ⟨rfl, hindex⟩ | ⟨rfl, hindex⟩ := h
  · exact ⟨.ident, rfl, hindex.le, rfl, fun _ => rfl⟩
  · exact ⟨.events, rfl, hindex, rfl, fun _ => rfl⟩
  · exact ⟨.demand, rfl, Nat.le_refl 2, rfl, fun _ => rfl⟩
  · exact ⟨.grant, rfl, hindex, rfl, fun _ => rfl⟩
  · exact ⟨.heat, rfl, hindex, rfl, fun _ => rfl⟩
  · exact ⟨.planLive, rfl, hindex, rfl, fun _ => rfl⟩

section Collected

variable {s : State} {p : Port} {h0 h1 : Byte} {data : List Byte} {k : RecordClass}

/-- The record that a collected header names. -/
theorem collected_record_eq (h : Collected s p h0 h1 data) (hcls : classOfCode (h0.toNat % 16) = some k)
    (hindex : h1.toNat ≤ lastIndex k) : (s.port p).xch.record = some (k, h1.toNat) := by
  rw [Exchange.record_eq_some_iff, collected_cls h]
  exact ⟨hcls, h1, collected_h1 h, hindex, rfl⟩

theorem collected_isWhole (h : Collected s p h0 h1 data) : (s.port p).xch.isRagged 0 = false := by
  simp [collected_isRagged h]

end Collected

/-- Settles O39: a record without a writer fails OWNER at any length; what is not permitted fails UNKNOWN, which comes
after FRAMING alone. -/
theorem unownedAndUnknownExchangesFail : Obligations.UnownedAndUnknownExchangesFail := by
  refine ⟨fun s p h0 h1 data hcommand h => ?unowned, fun s p c h0 h1 data h hends hother => ?unknown,
    fun s p c h0 hphase hh0 hh1 hbits hends hother => ?noIndex, fun s p stray h0 h1 data hcommand h => ?command,
    fun s p stray hphase hh0 hh1 hbits => ?noHeader⟩
  case unowned =>
    intro cls index hlisted
    obtain ⟨k, hcls, hindex, hwriter, hlength⟩ := unownedRecord hlisted
    have hplain : isPlainWrite (s.port p).xch = true := by
      rw [isPlainWrite_iff, collected_command h, collected_cls h, collected_index h]
      change _ ∧ (cls = 0 ∨ cls = 1 ∨ cls = 3 ∨ cls = 8 ∨ cls = 9 ∨ cls = 11 ∨ 13 ≤ cls ∨ cls = 5 ∧ 2 ≤ index)
      exact ⟨hcommand, by omega⟩
    have hfault : writeFault p (s.port p).xch 0 = some .owner := by
      rw [writeFault_of_fits (collected_isWhole h) (collected_record_eq h hcls hindex) ⟨none, hlength _, .inl rfl⟩,
        hwriter, if_pos (by simp)]
    rw [Releases.write.exec_fails (collected_phase h) hplain hfault, collected_fail h]
  case unknown =>
    intro command cls index hlisted
    rw [exec_unknown hends h.2.1 (by rwa [collected_command h]) fun hpermitted =>
      hlisted (collected_isPermitted h hpermitted), collected_fail h]
  case noIndex =>
    have hcommand : (s.port p).xch.command = h0.toNat / 16 := Exchange.command_of_h0 hh0
    have hrecord : (s.port p).xch.record = none := by
      cases hcls : classOfCode (s.port p).xch.cls <;> simp [Exchange.record, hcls, hh1]
    rw [exec_unknown hends hbits (by rwa [hcommand]) (by simp [Exchange.IsPermitted, hrecord, hh1]),
      failExchange_eq_withBad (h1 := 0) hcommand (Exchange.cls_of_h0 hh0) (by simp [Exchange.index, hh1])]
  case command =>
    have hfault : unknownFault (s.port p).xch stray = if stray % 8 = 0 then .unknown else .framing := by
      by_cases hwhole : stray % 8 = 0 <;> simp [unknownFault, collected_isRagged h, hwhole]
    rw [Releases.unknownCommand.exec_fails (collected_phase h) (isUnknownCommand_of_h0 (collected_h0 h) hcommand) rfl,
      collected_fail h, hfault]
  case noHeader =>
    have hragged : (s.port p).xch.isRagged stray = true := decide_eq_true hbits
    rw [Releases.unknownCommand.exec_fails (by simp [hphase]) (by simp [isUnknownCommand, hh0, hragged]) rfl,
      failExchange_eq_withBad (h0 := 0) (h1 := 0) (by simp [Exchange.command, hh0]) (by simp [Exchange.cls, hh0])
        (by simp [Exchange.index, hh1])]
    simp [unknownFault, hragged]

end Sys2Proof.Machine
end

section
/-! PROOFS. The writes of records (chapters 3, 4, 6, 9): what each stores at its owner, OWNER and LENGTH elsewhere. -/

namespace Sys2Proof.Machine

open Sys2Proof Sys2Proof.Laws

/-! ### Fields of data bytes, as the statements have them (R166) -/

theorem flagAt_eq (d : List Byte) (i : Nat) : flagAt d i = decide (d.getD i 0 ≠ 0) := by
  rw [flagAt, byteAt, Bool.eq_iff_iff, bne_iff_ne, decide_eq_true_iff, Ne, ← BitVec.toNat_zero (w := 8),
    BitVec.toNat_inj]
  rfl

/-- An optional field whose flag is clear is absent (R61). -/
theorem ite_flagAt {α : Type} (d : List Byte) (i : Nat) (x : α) :
    (if flagAt d i then some x else none) = if byteAt d i = 0 then none else some x := by
  simp [flagAt]

theorem flagAt_eq_decide (d : List Byte) (i : Nat) : flagAt d i = decide (byteAt d i ≠ 0) := by
  rw [flagAt, Bool.eq_iff_iff, bne_iff_ne, decide_eq_true_iff]

theorem append_toNat (hi lo : Byte) : (hi ++ lo : BitVec 16).toNat = hi.toNat * 256 + lo.toNat := by
  rw [BitVec.toNat_append, ← Nat.shiftLeft_add_eq_or_of_lt lo.isLt, Nat.shiftLeft_eq]

theorem signed16At_eq (d : List Byte) (i : Nat) :
    signed16At d i = (d.getD i 0 ++ d.getD (i + 1) 0 : BitVec 16).toInt := by
  have hword : (d.getD i 0 ++ d.getD (i + 1) 0 : BitVec 16).toNat = word16At d i := append_toNat _ _
  rw [BitVec.toInt_eq_toNat_cond, hword, signed16At]
  split <;> split <;> omega

theorem kindBitsAt_eq (d : List Byte) (i : Nat) : kindBitsAt d i = (d.getD i 0 ++ d.getD (i + 1) 0 : BitVec 16) := by
  apply BitVec.eq_of_toNat_eq
  rw [kindBitsAt, BitVec.toNat_ofNat, append_toNat, word16At, byteAt, byteAt]
  have hhi := (d.getD i 0).isLt
  have hlo := (d.getD (i + 1) 0).isLt
  omega

/-! ### A collected WRITE, by its port's checks (R157, R161) -/

section Write

variable {s t : State} {p : Port} {h0 h1 : Byte} {data : List Byte} {c : Instr} {code : Nat} {k : RecordClass}
  {act : Exchange → State → Answer}

/-- A WRITE command of a class with an action of its own. -/
abbrev Writes (s : State) (p : Port) (c : Instr) (code : Nat) (act : Exchange → State → Answer) : Prop :=
  Releases s p 0 c (isWriteOf code) (fun x => writeFault p x 0) act

/-- A collected WRITE whose header names the record of class `k` at the index that came. -/
structure Names (s : State) (p : Port) (h0 h1 : Byte) (data : List Byte) (code : Nat) (k : RecordClass) : Prop where
  collected : Collected s p h0 h1 data
  header : h0.toNat = 32 + code
  cls : classOfCode code = some k
  index : h1.toNat ≤ lastIndex k

theorem Names.isWriteOf (h : Names s p h0 h1 data code k) : isWriteOf code (s.port p).xch = true := by
  have hrange := classOfCode_range h.cls
  have hheader := h.header
  exact isWriteOf_of_h0 (collected_h0 h.collected) (by omega) (by omega)

theorem Names.record (h : Names s p h0 h1 data code k) : (s.port p).xch.record = some (k, h1.toNat) := by
  have hrange := classOfCode_range h.cls
  have hheader := h.header
  have hcode : h0.toNat % 16 = code := by omega
  exact collected_record_eq h.collected (hcode ▸ h.cls) h.index

theorem Names.length_fails (h : Names s p h0 h1 data code k) (hc : Writes s p c code act)
    (hfits : ¬(s.port p).xch.Fits k h1.toNat) : exec c s = .next (s.withBad p h0 h1 .length 0 0 0) := by
  rw [hc.exec_fails (collected_phase h.collected) h.isWriteOf
    (writeFault_length (collected_isWhole h.collected) h.record hfits), collected_fail h.collected]

theorem Names.owner_fails (h : Names s p h0 h1 data code k) (hc : Writes s p c code act)
    (hfits : (s.port p).xch.Fits k h1.toNat) (howner : writerOf k h1.toNat ≠ some p) :
    exec c s = .next (s.withBad p h0 h1 .owner 0 0 0) := by
  have hfault : writeFault p (s.port p).xch 0 = some .owner := by
    rw [writeFault_of_fits (collected_isWhole h.collected) h.record hfits, if_pos howner]
  rw [hc.exec_fails (collected_phase h.collected) h.isWriteOf hfault, collected_fail h.collected]

theorem Names.taken (h : Names s p h0 h1 data code k) (hc : Writes s p c code act)
    (hfits : (s.port p).xch.Fits k h1.toNat) (howner : writerOf k h1.toNat = some p) :
    exec c s = .next (settleExchange p s (act (s.port p).xch s)) := by
  have hfault : writeFault p (s.port p).xch 0 = none := by
    rw [writeFault_of_fits (collected_isWhole h.collected) h.record hfits, if_neg (not_not.mpr howner)]
  rw [hc.exec, collected_release_taken h.collected h.isWriteOf hfault]

/-- A record of a fixed length. -/
theorem Names.fits_iff (h : Names s p h0 h1 data code k) {n : Nat}
    (hlength : ∀ d, writeLength k h1.toNat d = some (some n)) :
    (s.port p).xch.Fits k h1.toNat ↔ data.length = n := by
  simp only [Exchange.Fits, hlength, collected_count h.collected]
  constructor
  · rintro ⟨_, ⟨⟩, hnone | hcount⟩
    · cases hnone
    · exact (Option.some.inj hcount).symm
  · rintro rfl
    exact ⟨_, rfl, .inr rfl⟩

/-- A block's answer that leaves the port controllers. -/
theorem settleExchange_done (h : Collected s p h0 h1 data) (hports : t.ports = s.ports) :
    settleExchange p s (.done t) = t.withGood p h0 h1 .ok 0 :=
  collected_pass h t (by rw [State.port, hports, State.port]) .ok 0

end Write

/-! ### DEMAND and HOLD_SET (R38, R39, R45) -/

section Demand

variable {s : State} {p : Port} {index : Byte} {data : List Byte}

theorem names_demand (h : Collected s p 0x25#8 index data) (hindex : index.toNat ≤ 2) :
    Names s p 0x25#8 index data 5 .demand := ⟨h, rfl, rfl, hindex⟩

theorem names_holdSet (h : Collected s p 0x26#8 0#8 data) : Names s p 0x26#8 0#8 data 6 .holdSet :=
  ⟨h, rfl, rfl, Nat.le_refl 0⟩

theorem fits_demand_iff (h : Collected s p 0x25#8 index data) (hindex : index.toNat ≤ 1) :
    (s.port p).xch.Fits .demand index.toNat ↔ data.length = 2 :=
  (names_demand h (Nat.le_succ_of_le hindex)).fits_iff fun _ => if_pos hindex

theorem fits_holdSet_iff (h : Collected s p 0x26#8 0#8 data) :
    (s.port p).xch.Fits .holdSet 0 ↔ data.length = 3 := (names_holdSet h).fits_iff fun _ => rfl

/-- A good WRITE of DEMAND stores the entry of its index. -/
theorem exec_writeDemand_good (h : Collected s p 0x25#8 index data) (hindex : index.toNat ≤ 1)
    (hlength : data.length = 2) (howner : writerOf .demand index.toNat = some p) :
    exec (.writeDemand p 0) s = .next ((storeDemand index.toNat data s).withGood p 0x25#8 index .ok 0) := by
  rw [(names_demand h (Nat.le_succ_of_le hindex)).taken .writeDemand ((fits_demand_iff h hindex).mpr hlength) howner,
    collected_index h, collected_data_short h (by omega), settleExchange_done h (storeDemand_ports ..)]

theorem exec_writeDemand_owner (h : Collected s p 0x25#8 index data) (hindex : index.toNat ≤ 1)
    (hlength : data.length = 2) (howner : writerOf .demand index.toNat ≠ some p) :
    exec (.writeDemand p 0) s = .next (s.withBad p 0x25#8 index .owner 0 0 0) :=
  (names_demand h (Nat.le_succ_of_le hindex)).owner_fails .writeDemand ((fits_demand_iff h hindex).mpr hlength) howner

theorem exec_writeHoldSet_good (h : Collected s .c 0x26#8 0#8 data) (hlength : data.length = 3) :
    exec (.writeHoldSet .c 0) s = .next ((storeHoldSet data s).withGood .c 0x26#8 0#8 .ok 0) := by
  rw [(names_holdSet h).taken .writeHoldSet ((fits_holdSet_iff h).mpr hlength) rfl,
    collected_data_short h (by omega), settleExchange_done (t := storeHoldSet data s) h rfl]

end Demand

/-- Settles O34: a good WRITE stores its entry, and OWNER and LENGTH are the port's own checks. -/
theorem demandWritesAreStored : Obligations.DemandWritesAreStored := by
  refine ⟨fun s hi lo h => ?pedal, fun s hi lo h => ?stalk, fun s flag hi lo h => ?holdSet,
    fun s p hi lo hp h => ?pedalOwner, fun s p hi lo hp h => ?stalkOwner, fun s p flag hi lo hp h => ?holdSetOwner,
    fun s p data => ⟨fun h => ?holdOwner, fun index hindex h hlength => ?demandLength, fun h hlength => ?holdSetLength⟩⟩
  case pedal =>
    rw [exec_writeDemand_good h (by decide) rfl rfl]
    rfl
  case stalk =>
    rw [exec_writeDemand_good h (by decide) rfl rfl]
    rfl
  case holdSet =>
    have hflag : flagAt [flag, hi, lo] 0 = decide (flag ≠ 0) := flagAt_eq _ 0
    rw [exec_writeHoldSet_good h rfl, storeHoldSet, hflag]
    rfl
  case pedalOwner => exact exec_writeDemand_owner h (by decide) rfl (by simpa [writerOf] using hp.symm)
  case stalkOwner => exact exec_writeDemand_owner h (by decide) rfl (by simpa [writerOf] using hp.symm)
  case holdSetOwner =>
    exact (names_holdSet h).owner_fails .writeHoldSet ((fits_holdSet_iff h).mpr rfl) (by simpa [writerOf] using hp.symm)
  case holdOwner =>
    exact (names_demand h (by decide)).owner_fails .writeDemand ⟨none, rfl, .inl rfl⟩ (by simp [writerOf])
  case demandLength =>
    exact (names_demand h (Nat.le_succ_of_le hindex)).length_fails .writeDemand
      (mt (fits_demand_iff h hindex).mp hlength)
  case holdSetLength =>
    exact (names_holdSet h).length_fails .writeHoldSet (mt (fits_holdSet_iff h).mp hlength)

/-! ### REPORT (R54, R61, R169) -/

section Report

variable {s : State} {p : Port} {index : Byte} {data : List Byte}

theorem names_report (h : Collected s p 0x27#8 index data) (hindex : index.toNat ≤ 3) :
    Names s p 0x27#8 index data 7 .report := ⟨h, rfl, rfl, hindex⟩

/-- The lengths of the four reports. -/
theorem writeLength_report : ∀ n ≤ 3, ∀ d, writeLength .report n d = some (some ([6, 9, 20, 4].getD n 0))
  | 0, _, _ | 1, _, _ | 2, _, _ | 3, _, _ => rfl

theorem fits_report_iff (h : Collected s p 0x27#8 index data) (hindex : index.toNat ≤ 3) :
    (s.port p).xch.Fits .report index.toNat ↔ data.length = [6, 9, 20, 4].getD index.toNat 0 :=
  (names_report h hindex).fits_iff (writeLength_report _ hindex)

theorem reportLength_le : ∀ n ≤ 3, [6, 9, 20, 4].getD n 0 ≤ 33 := by decide

/-- A good WRITE of REPORT stores the record of its index. -/
theorem exec_writeReport_good (h : Collected s p 0x27#8 index data) (hindex : index.toNat ≤ 3)
    (hlength : data.length = [6, 9, 20, 4].getD index.toNat 0) (howner : portNumber p = index.toNat) :
    exec (.writeReport p 0) s = .next ((storeReport index.toNat data s).withGood p 0x27#8 index .ok 0) := by
  have hstored : data.length ≤ 33 := hlength ▸ reportLength_le _ hindex
  rw [(names_report h hindex).taken .writeReport ((fits_report_iff h hindex).mpr hlength)
      (portOfNumber_eq_some_iff.mpr howner),
    collected_index h, collected_data_short h hstored, settleExchange_done h (storeReport_ports ..)]

theorem achievedTorqueAt_eq (d : List Byte) (i : Nat) :
    achievedTorqueAt d i =
      if byteAt d i = 0 then none else some (d.getD (i + 1) 0 ++ d.getD (i + 1 + 1) 0 : BitVec 16).toInt := by
  rw [achievedTorqueAt, ite_flagAt, signed16At_eq]

theorem axleReportOf_eq (d : List Byte) (i : Nat) :
    axleReportOf d i =
      { pmax := min 1200 (word16At d i)
        achieved := if byteAt d (i + 2) = 0 then none else some (min 1200 (word16At d (i + 3)))
        slip := decide (byteAt d (i + 5) ≠ 0) } := by
  rw [axleReportOf, ite_flagAt, flagAt_eq_decide]

/-- A write of VEHICLE posts MASS_CLAMP at most (R54). -/
theorem storeReport_vehicle (d : List Byte) (s : State) :
    storeReport 3 d s =
      { s with
        reports := { s.reports with vehicle := vehicleOf d }
        events := (s.postIf (!inRange 5000 32000 (word16At d 0)) .massClamp [.c]).events } := by
  cases hrange : inRange 5000 32000 (word16At d 0) <;> simp [storeReport, hrange, State.postIf, State.post]

end Report

/-- Settles O35: a good WRITE stores the record of its index, and OWNER and LENGTH are the port's own checks. -/
theorem reportWritesAreStored : Obligations.ReportWritesAreStored := by
  intro s data byte word signed torque axle
  have hsigned : ∀ i, signed16At data i = signed i := signed16At_eq data
  have htorque : ∀ i, achievedTorqueAt data i = torque i := achievedTorqueAt_eq data
  have haxle : ∀ i, axleReportOf data i = axle i := axleReportOf_eq data
  refine ⟨fun h hlength => ?exhaust, fun h hlength => ?trans, fun h hlength => ?axles, fun h hlength => ?vehicle,
    fun p index hindex h hlength hp => ?owner, fun p index hindex h hlength => ?length⟩
  case exhaust =>
    rw [exec_writeReport_good h (by decide) hlength rfl]
    change Host.Outcome.next
      ({ s with reports := { s.reports with exhaust := .written (exhaustOf data) } }.withGood ..) = _
    rw [exhaustOf, htorque]
    rfl
  case trans =>
    rw [exec_writeReport_good h (by decide) hlength rfl]
    change Host.Outcome.next
      ({ s with reports := { s.reports with trans := .written (transOf data) } }.withGood ..) = _
    rw [transOf, htorque, flagAt_eq_decide]
    rfl
  case axles =>
    rw [exec_writeReport_good h (by decide) hlength rfl]
    change Host.Outcome.next
      ({ s with reports := { s.reports with axles := .written (axlesOf data) } }.withGood ..) = _
    rw [axlesOf, haxle, haxle, haxle]
    rfl
  case vehicle =>
    have hrange : (!inRange 5000 32000 (word16At data 0)) = true ↔ word 0 < 5000 ∨ 32000 < word 0 := by
      rw [Bool.not_eq_true', inRange, Bool.and_eq_false_iff, decide_eq_false_iff_not, decide_eq_false_iff_not,
        Nat.not_le, Nat.not_le]
      rfl
    refine ⟨(s.postIf (!inRange 5000 32000 (word16At data 0)) .massClamp [.c]).events, ?_,
      State.postIf_mask _ _ _ s, fun p k => ?_⟩
    · rw [exec_writeReport_good h (by decide) hlength rfl]
      change Host.Outcome.next ((storeReport 3 data s).withGood ..) = _
      rw [storeReport_vehicle, vehicleOf, hsigned]
      rfl
    · rw [State.postIf_count]
      have hposted : ((!inRange 5000 32000 (word16At data 0)) = true ∧ p ∈ [Port.c] ∧ k = .massClamp) ↔
          (p = .c ∧ k = .massClamp ∧ (word 0 < 5000 ∨ 32000 < word 0)) := by
        rw [hrange, List.mem_singleton]
        exact and_comm.trans and_assoc
      exact if_congr hposted rfl rfl
  case owner =>
    exact (names_report h hindex).owner_fails .writeReport ((fits_report_iff h hindex).mpr hlength)
      (mt portOfNumber_eq_some_iff.mp hp)
  case length =>
    exact (names_report h hindex).length_fails .writeReport (mt (fits_report_iff h hindex).mp hlength)

/-! ### EVENT_MASK and PORT_STATUS (R163, R173) -/

section OwnRecords

variable {s : State} {p : Port} {index : Byte} {data : List Byte}

theorem names_eventMask (h : Collected s p 0x24#8 index data) (hindex : index.toNat ≤ 3) :
    Names s p 0x24#8 index data 4 .eventMask := ⟨h, rfl, rfl, hindex⟩

theorem names_portStatus (h : Collected s p 0x22#8 index data) (hindex : index.toNat ≤ 3) :
    Names s p 0x22#8 index data 2 .portStatus := ⟨h, rfl, rfl, hindex⟩

theorem fits_eventMask_iff (h : Collected s p 0x24#8 index data) (hindex : index.toNat ≤ 3) :
    (s.port p).xch.Fits .eventMask index.toNat ↔ data.length = 2 := (names_eventMask h hindex).fits_iff fun _ => rfl

theorem fits_portStatus_iff (h : Collected s p 0x22#8 index data) (hindex : index.toNat ≤ 3) :
    (s.port p).xch.Fits .portStatus index.toNat ↔ data.length = 1 := (names_portStatus h hindex).fits_iff fun _ => rfl

theorem exec_writeEventMask_good (h : Collected s p 0x24#8 index data) (hindex : index.toNat ≤ 3)
    (hlength : data.length = 2) (howner : portNumber p = index.toNat) :
    exec (.writeEventMask p 0) s = .next { s.withGood p 0x24#8 index .ok 0 with
      events := s.events.set p { s.events.get p with mask := kindBitsAt data 0 } } := by
  rw [(names_eventMask h hindex).taken .writeEventMask ((fits_eventMask_iff h hindex).mpr hlength)
      (portOfNumber_eq_some_iff.mpr howner),
    takeMask, collected_data_short h (by omega)]
  exact congrArg _ (settleExchange_done h rfl)

/-- A good WRITE of PORT_STATUS reaches the port controller. -/
theorem exec_writePortStatus_taken (h : Collected s p 0x22#8 index data) (hindex : index.toNat ≤ 3)
    (hlength : data.length = 1) (howner : portNumber p = index.toNat) :
    exec (.writePortStatus p 0) s = .next (settleExchange p s (takePortStatus p (s.port p).xch s)) :=
  (names_portStatus h hindex).taken .writePortStatus ((fits_portStatus_iff h hindex).mpr hlength)
    (portOfNumber_eq_some_iff.mpr howner)

theorem takePortStatus_keep {x : Exchange} (h : byteAt x.data 0 ≠ 0) : takePortStatus p x s = .done s := by
  rw [takePortStatus, if_neg h]

theorem takePortStatus_clear {x : Exchange} (h : byteAt x.data 0 = 0) :
    takePortStatus p x s = .done (s.setPort p { s.port p with errors := 0 }) := by
  rw [takePortStatus, if_pos h]

/-- The exchange's own outcome comes after the count is cleared (R162, R163). -/
theorem settleExchange_clear (h : Collected s p 0x22#8 index data) :
    settleExchange p s (.done (s.setPort p { s.port p with errors := 0 })) =
      { s with ports := s.ports.set p ((s.port p).atRest true 0 (headerResult 0x22#8 index .ok 0 0 0)) } := by
  rw [settleExchange, passExchange, State.port_setPort_same, PortControl.passed, resultOf, collected_command h,
    collected_cls h, collected_index h]
  simp only [State.setPort, PerPort.set_set]
  rfl

end OwnRecords

/-- Settles O38: the event unit and the port controller take the port's own writes; OWNER and LENGTH are the port's own
checks. -/
theorem ownRecordsAreWritten : Obligations.OwnRecordsAreWritten := by
  intro s p index hi lo hindex
  refine ⟨fun howner h => ?mask, fun hother h => ?maskOwner, fun howner h => ⟨fun hlo => ?keep, fun hlo => ?clear⟩,
    fun hother h => ?statusOwner, fun data => ⟨fun h hlength => ?maskLength, fun h hlength => ?statusLength⟩⟩
  case mask =>
    have hmask : kindBitsAt [hi, lo] 0 = hi ++ lo := kindBitsAt_eq _ 0
    rw [exec_writeEventMask_good h hindex rfl howner, hmask]
  case maskOwner =>
    exact (names_eventMask h hindex).owner_fails .writeEventMask ((fits_eventMask_iff h hindex).mpr rfl)
      (mt portOfNumber_eq_some_iff.mp hother)
  case keep =>
    have hcount : byteAt (s.port p).xch.data 0 ≠ 0 := by
      rw [collected_data_short h (Nat.le_add_left 1 32)]
      exact fun hzero => hlo (BitVec.eq_of_toNat_eq hzero)
    rw [exec_writePortStatus_taken h hindex rfl howner, takePortStatus_keep hcount, settleExchange_done h rfl]
  case clear =>
    have hcount : byteAt (s.port p).xch.data 0 = 0 := by
      rw [collected_data_short h (Nat.le_add_left 1 32), hlo]
      rfl
    rw [exec_writePortStatus_taken h hindex rfl howner, takePortStatus_clear hcount, settleExchange_clear h]
  case statusOwner =>
    exact (names_portStatus h hindex).owner_fails .writePortStatus ((fits_portStatus_iff h hindex).mpr rfl)
      (mt portOfNumber_eq_some_iff.mp hother)
  case maskLength =>
    exact (names_eventMask h hindex).length_fails .writeEventMask (mt (fits_eventMask_iff h hindex).mp hlength)
  case statusLength =>
    exact (names_portStatus h hindex).length_fails .writePortStatus (mt (fits_portStatus_iff h hindex).mp hlength)

/-! ### SEED (R122, R123) -/

/-- Where an axle's value lies in a SEED write. -/
def seedOffset : Axle → Nat
  | .front => 0
  | .drive => 3
  | .tag => 6

theorem seedValues_get (d : List Byte) (i : Axle) :
    (seedValues d).get i =
      if d.getD (seedOffset i) 0 != 0 then
        some (d.getD (seedOffset i + 1) 0 ++ d.getD (seedOffset i + 2) 0 : BitVec 16).toInt
      else none := by
  have hvalue : ∀ o, seedValueAt d o =
      if d.getD o 0 != 0 then some (d.getD (o + 1) 0 ++ d.getD (o + 2) 0 : BitVec 16).toInt else none := by
    intro o
    rw [seedValueAt, flagAt_eq, signed16At_eq]
    exact if_congr (by rw [decide_eq_true_iff, bne_iff_ne]) rfl rfl
  cases i <;> exact hvalue _

theorem seedHasValue_iff (d : List Byte) : seedHasValue d = true ↔ ∃ i, ((seedValues d).get i).isSome = true := by
  simp only [seedHasValue, Bool.or_eq_true]
  constructor
  · rintro ((h | h) | h)
    · exact ⟨.front, h⟩
    · exact ⟨.drive, h⟩
    · exact ⟨.tag, h⟩
  · rintro ⟨i, h⟩
    cases i
    case front => exact .inl (.inl h)
    case drive => exact .inl (.inr h)
    case tag => exact .inr h

/-- The detail byte by the ignored axles (R162). -/
theorem seedDetail_eq (d : List Byte) (accounts : PerAxle HeatAccount) :
    seedDetail d accounts =
      (seedIgnored ((seedValues d).get .front) (accounts.get .front)).toNat +
      2 * (seedIgnored ((seedValues d).get .drive) (accounts.get .drive)).toNat +
      4 * (seedIgnored ((seedValues d).get .tag) (accounts.get .tag)).toNat := by
  have hbit : ∀ (b : Bool) (weight : Nat), (if b then weight else 0) = weight * b.toNat := by
    intro b weight
    cases b <;> simp
  simp only [seedDetail, hbit, Nat.one_mul]
  rfl

section SeedAccount

variable {a : HeatAccount}

theorem seedAccount_none : seedAccount none a = a := rfl

theorem seedAccount_of_seeded (v : Option Int) (h : a.seeded = true) : seedAccount v a = a := by
  cases v <;> simp [seedAccount, h]

theorem seedAccount_of_unseeded (x : Int) (h : a.seeded = false) :
    seedAccount (some x) a = { a with temp := max (-40) (min 900 x) * 65536, seeded := true, sat := false } := by
  simp [seedAccount, h, clampInt, Config.heatUnit]

theorem storeSeed_account (d : List Byte) (s : State) (i : Axle) :
    (storeSeed d s).heat.accounts.get i = seedAccount ((seedValues d).get i) (s.heat.accounts.get i) :=
  PerAxle.get_map _ _ i

end SeedAccount

section SeedWrite

variable {s : State} {p : Port} {data : List Byte}

theorem names_seed (h : Collected s p 0x2C#8 0#8 data) : Names s p 0x2C#8 0#8 data 12 .seed :=
  ⟨h, rfl, rfl, Nat.le_refl 0⟩

theorem fits_seed_iff (h : Collected s p 0x2C#8 0#8 data) : (s.port p).xch.Fits .seed 0 ↔ data.length = 9 :=
  (names_seed h).fits_iff fun _ => rfl

theorem exec_writeSeed_range (h : Collected s .b 0x2C#8 0#8 data) (hlength : data.length = 9)
    (hnone : seedHasValue data = false) :
    exec (.writeSeed .b 0) s = .next (s.withBad .b 0x2C#8 0#8 .range 0 0 0) := by
  rw [(names_seed h).taken .writeSeed ((fits_seed_iff h).mpr hlength) rfl, takeSeed, collected_data_short h (by omega),
    hnone]
  exact congrArg _ (collected_fail h .range 0 0 0)

/-- A SEED write that acts, with or without ignored axles. -/
theorem exec_writeSeed_good (h : Collected s .b 0x2C#8 0#8 data) (hlength : data.length = 9)
    (hsome : seedHasValue data = true) :
    exec (.writeSeed .b 0) s = .next ((storeSeed data s).withGood .b 0x2C#8 0#8
      (if seedDetail data s.heat.accounts = 0 then .ok else .seedPartial) (seedDetail data s.heat.accounts)) := by
  rw [(names_seed h).taken .writeSeed ((fits_seed_iff h).mpr hlength) rfl, takeSeed, collected_data_short h (by omega),
    hsome]
  by_cases hdetail : seedDetail data s.heat.accounts = 0
  · rw [if_pos hdetail, hdetail]
    exact congrArg _ (settleExchange_done (t := storeSeed data s) h rfl)
  · rw [if_neg hdetail, if_neg hdetail]
    exact congrArg _ (collected_pass h (storeSeed data s) rfl .seedPartial _)

end SeedWrite

/-- Settles O37: the heat estimator stores the values of the axles not yet seeded. -/
theorem seedWriteSeedsOnce : Obligations.SeedWriteSeedsOnce := by
  refine ⟨fun s p data h hlength => ?length, fun s data h hlength => ?_⟩
  case length => exact (names_seed h).length_fails .writeSeed (mt (fits_seed_iff h).mp hlength)
  intro offset present value ignored detail
  have hvalues : ∀ i, (seedValues data).get i = if present i then some (value i) else none := by
    intro i
    rw [seedValues_get]
    cases i <;> rfl
  have hpresent : ∀ i, ((seedValues data).get i).isSome = present i := by
    intro i
    rw [hvalues]
    cases present i <;> rfl
  have hdetail : seedDetail data s.heat.accounts = detail := by
    simp only [seedDetail_eq, seedIgnored, hpresent]
    rfl
  refine ⟨fun hnone => ?range, fun hsome => ⟨(storeSeed data s).heat.accounts, ?good,
      fun i => ⟨fun hi hunseeded => ?takes, fun hkeep => ?keeps⟩⟩,
    fun t p hp ht => ?owner⟩
  case range =>
    refine exec_writeSeed_range h hlength ?_
    rw [← Bool.not_eq_true, seedHasValue_iff]
    rintro ⟨i, hi⟩
    rw [hpresent, hnone] at hi
    cases hi
  case good =>
    obtain ⟨i, hi⟩ := hsome
    rw [exec_writeSeed_good h hlength ((seedHasValue_iff data).mpr ⟨i, (hpresent i).trans hi⟩), hdetail]
    rfl
  case takes => rw [storeSeed_account, hvalues, hi, if_pos rfl, seedAccount_of_unseeded _ hunseeded]
  case keeps =>
    rw [storeSeed_account]
    obtain habsent | hseeded := hkeep
    · rw [hvalues, habsent, if_neg Bool.false_ne_true, seedAccount_none]
    · exact seedAccount_of_seeded _ hseeded
  case owner =>
    exact (names_seed ht).owner_fails .writeSeed ((fits_seed_iff ht).mpr hlength) (by simpa [writerOf] using hp.symm)

end Sys2Proof.Machine
end

section
/-! PROOFS. The parts of the plan as bytes (chapters 7 and 9): a write of PLAN_STAGED, and a part read back. -/

namespace Sys2Proof.Machine

open Sys2Proof Sys2Proof.Laws

/-! ### The length of a part (R129) -/

/-- COUNT is at most 8, and COUNT points of `m` bytes follow it. -/
def IsCurve (m : Nat) (d : List Byte) (n : Nat) : Prop := d ≠ [] ∧ byteAt d 0 ≤ 8 ∧ n = 1 + byteAt d 0 * m

theorem curveLength_eq_some_iff {m n : Nat} {d : List Byte} : curveLength m d = some n ↔ IsCurve m d n := by
  cases d with
  | nil => simp [curveLength, IsCurve]
  | cons v d =>
    have hcount : byteAt (v :: d) 0 = v.toNat := rfl
    simp only [curveLength, IsCurve, hcount, Nat.mul_comm v.toNat m]
    by_cases hle : v.toNat ≤ 8 <;> simp [hle, eq_comm]

theorem partLength_eq_some_iff {index n : Nat} {d : List Byte} (hindex : index ≤ 10) :
    partLength index d = some n ↔
      if index = 1 ∨ index = 3 then IsCurve 4 d n
      else if index = 8 then IsCurve 3 d n
      else n = [5, 0, 11, 0, 10, 10, 10, 10, 0, 24, 10].getD index 0 := by
  match index, hindex with
  | 1, _ | 3, _ => exact curveLength_eq_some_iff
  | 8, _ => exact curveLength_eq_some_iff
  | 0, _ | 2, _ | 4, _ | 5, _ | 6, _ | 7, _ | 9, _ | 10, _ => simp [partLength, eq_comm]

/-- The bytes that a port does not store do not reach the length. -/
theorem isCurve_take {m n : Nat} {d : List Byte} : IsCurve m (d.take 33) n ↔ IsCurve m d n := by
  cases d <;> simp [IsCurve, byteAt]

/-- A part has at most as many bytes as a port stores. -/
theorem le_of_partLength {index n : Nat} {d : List Byte} (hindex : index ≤ 10) (h : partLength index d = some n) :
    n ≤ 33 := by
  rw [partLength_eq_some_iff hindex] at h
  split at h
  · obtain ⟨_, hcount, rfl⟩ := h
    omega
  · split at h
    · obtain ⟨_, hcount, rfl⟩ := h
      omega
    · interval_cases index <;> simp at h <;> omega

/-! ### What a write makes of the staged copy (R127, R128) -/

theorem torquePoints_eq (d : List Byte) :
    takePoints 4 torquePoint d =
      (List.range (byteAt d 0)).map fun k => { x := word16At d (1 + 4 * k), y := word16At d (3 + 4 * k) } := by
  refine List.map_congr_left fun k _ => ?_
  rw [torquePoint, show 1 + 4 * k + 2 = 3 + 4 * k by omega]

theorem fadePoints_eq (d : List Byte) :
    takePoints 3 fadePoint d =
      (List.range (byteAt d 0)).map fun k => { x := signed16At d (1 + 3 * k), y := byteAt d (3 + 3 * k) } := by
  refine List.map_congr_left fun k _ => ?_
  rw [fadePoint, show 1 + 3 * k + 2 = 3 + 3 * k by omega]

/-! ### A WRITE of PLAN_STAGED (R128, R161) -/

section Staged

variable {s : State} {p : Port} {index : Byte} {data : List Byte}

theorem names_planStaged (h : Collected s p 0x2A#8 index data) (hindex : index.toNat ≤ 10) :
    Names s p 0x2A#8 index data 10 .planStaged := ⟨h, rfl, rfl, hindex⟩

theorem fits_planStaged_iff {x : Exchange} {i : Nat} : x.Fits .planStaged i ↔ partLength i x.data = some x.count := by
  cases hlength : partLength i x.data <;> simp [Exchange.Fits, writeLength, hlength]

/-- The length of a collected part, as the statements have it. -/
theorem collected_fits_planStaged_iff (h : Collected s p 0x2A#8 index data) (hindex : index.toNat ≤ 10) :
    (s.port p).xch.Fits .planStaged index.toNat ↔
      if index.toNat = 1 ∨ index.toNat = 3 then IsCurve 4 data data.length
      else if index.toNat = 8 then IsCurve 3 data data.length
      else data.length = [5, 0, 11, 0, 10, 10, 10, 10, 0, 24, 10].getD index.toNat 0 := by
  rw [fits_planStaged_iff, partLength_eq_some_iff hindex, collected_data h, collected_count h, isCurve_take,
    isCurve_take]

theorem writerOf_planStaged_iff {i : Nat} : writerOf .planStaged i = some p ↔ partOwner i = p := by
  simp [writerOf]

/-- The plan store answers a staged write that passes the port's checks. -/
theorem exec_writePlanStaged_taken (h : Collected s p 0x2A#8 index data) (hindex : index.toNat ≤ 10)
    (hfits : (s.port p).xch.Fits .planStaged index.toNat) (howner : partOwner index.toNat = p) :
    exec (.writePlanStaged p 0) s = .next (settleExchange p s (takeStaged p (s.port p).xch s)) :=
  (names_planStaged h hindex).taken .writePlanStaged hfits (writerOf_planStaged_iff.mpr howner)

theorem exec_writePlanStaged_good (h : Collected s p 0x2A#8 index data) (hindex : index.toNat ≤ 10)
    (hfits : (s.port p).xch.Fits .planStaged index.toNat) (howner : partOwner index.toNat = p)
    (hclear : s.plan.isPending p = false) :
    exec (.writePlanStaged p 0) s =
      .next { s.withGood p 0x2A#8 index .ok 0 with plan := s.plan.writePart index.toNat data } := by
  have hstored : data.length ≤ 33 :=
    collected_count h ▸ le_of_partLength hindex (fits_planStaged_iff.mp hfits)
  rw [exec_writePlanStaged_taken h hindex hfits howner, takeStaged, if_neg (by simp [hclear]), collected_index h,
    collected_data_short h hstored, settleExchange_plan h]

theorem exec_writePlanStaged_pending (h : Collected s p 0x2A#8 index data) (hindex : index.toNat ≤ 10)
    (hfits : (s.port p).xch.Fits .planStaged index.toNat) (howner : partOwner index.toNat = p)
    (hset : s.plan.isPending p = true) :
    exec (.writePlanStaged p 0) s = .next (s.withBad p 0x2A#8 index .pending 0 0 0) := by
  rw [exec_writePlanStaged_taken h hindex hfits howner, takeStaged, if_pos hset, settleExchange_refuse h]

end Staged

/-- Settles O36: LENGTH and OWNER are the port's own checks, PENDING is the plan store's, and a good write replaces the
part. -/
theorem stagedWriteReplacesThePart : Obligations.StagedWriteReplacesThePart := by
  intro s p index data hindex h byte word long signed count torques fades axle e t b c intoE intoT intoB intoC written
    owner curve fits marked
  have howner : partOwner index.toNat = owner := partOwner_eq_getD _ hindex
  have hmarked : s.plan.isPending p = marked := by cases p <;> rfl
  have hfits : (s.port p).xch.Fits .planStaged index.toNat ↔ fits := collected_fits_planStaged_iff h hindex
  have hsigned : ∀ i, signed16At data i = signed i := signed16At_eq data
  have hbyte : ∀ i, byteAt data i = byte i := fun _ => rfl
  have hword : ∀ i, word16At data i = word i := fun _ => rfl
  have hlong : ∀ i, word32At data i = long i := fun _ => rfl
  have htorques : takePoints 4 torquePoint data = torques := torquePoints_eq data
  have hfades : takePoints 3 fadePoint data = fades := by
    rw [fadePoints_eq]
    simp only [hsigned]
    rfl
  have hwritten : s.plan.writePart index.toNat data = written := by
    simp only [written]
    generalize index.toNat = i at hindex
    match i, hindex with
    | 1, _ => exact congrArg (fun x => intoE { e with curve := x }) htorques
    | 3, _ => exact congrArg (fun x => intoT { t with curve := x }) htorques
    | 8, _ => exact congrArg (fun x => intoB { b with fade := x }) hfades
    | 0, _ | 2, _ | 4, _ | 5, _ | 6, _ | 7, _ => rfl
    | 9, _ | 10, _ =>
      simp only [PlanStore.writePart, hbyte, hword, hlong]
      rfl
  rw [← hmarked, ← howner, ← hfits]
  refine ⟨fun hfit hp hclear => ?good, fun hfit => ?length, fun hfit hp => ?owner, fun hfit hp hset => ?pending⟩
  case good => rw [exec_writePlanStaged_good h hindex hfit hp.symm hclear, hwritten]
  case length => exact (names_planStaged h hindex).length_fails .writePlanStaged hfit
  case owner =>
    exact (names_planStaged h hindex).owner_fails .writePlanStaged hfit (mt writerOf_planStaged_iff.mp hp.symm)
  case pending => exact exec_writePlanStaged_pending h hindex hfit hp.symm hset

/-! ### A field sent again (R166) -/

section Sent

variable (d : List Byte) (i : Nat)

theorem ofNat_byteAt : BitVec.ofNat 8 (byteAt d i) = d.getD i 0 := by
  simp only [byteAt, BitVec.ofNat_toNat, BitVec.setWidth_eq]

theorem send8_byteAt : send8 (byteAt d i) = [d.getD i 0] := by
  rw [send8, ofNat_byteAt]

theorem send16_word16At : send16 (word16At d i) = [d.getD i 0, d.getD (i + 1) 0] := by
  have hlow : byteAt d (i + 1) < 256 := (d.getD (i + 1) 0).isLt
  have hhigh : word16At d i / 256 = byteAt d i := by rw [word16At]; omega
  have hmod : BitVec.ofNat 8 (word16At d i) = BitVec.ofNat 8 (byteAt d (i + 1)) := by
    apply BitVec.eq_of_toNat_eq
    rw [BitVec.toNat_ofNat, BitVec.toNat_ofNat, word16At]
    omega
  rw [send16, hhigh, hmod, ofNat_byteAt, ofNat_byteAt]

theorem word16At_lt : word16At d i < 65536 := by
  have hhigh : byteAt d i < 256 := (d.getD i 0).isLt
  have hlow : byteAt d (i + 1) < 256 := (d.getD (i + 1) 0).isLt
  rw [word16At]
  omega

theorem send32_word32At :
    send32 (word32At d i) = [d.getD i 0, d.getD (i + 1) 0, d.getD (i + 2) 0, d.getD (i + 3) 0] := by
  have hlow := word16At_lt d (i + 2)
  have hhigh : word32At d i / 65536 = word16At d i := by rw [word32At]; omega
  have hmod : word32At d i % 65536 = word16At d (i + 2) := by rw [word32At]; omega
  rw [send32, hhigh, hmod, send16_word16At, send16_word16At]
  rfl

theorem sendSigned16_word16At : sendSigned16 (word16At d i : Int) = [d.getD i 0, d.getD (i + 1) 0] := by
  have hlt := word16At_lt d i
  have hsame : ((word16At d i : Int) % 65536).toNat = word16At d i := by omega
  rw [sendSigned16, hsame, send16_word16At]

theorem sendSigned16_signed16At : sendSigned16 (signed16At d i) = [d.getD i 0, d.getD (i + 1) 0] := by
  have hlt := word16At_lt d i
  have hsame : (signed16At d i % 65536).toNat = word16At d i := by
    rw [signed16At]
    split <;> omega
  rw [sendSigned16, hsame, send16_word16At]

end Sent

/-! ### A part read back (R127, R130) -/

/-- A list is its elements one by one. -/
theorem map_getD_range (d : List Byte) : (List.range d.length).map (fun i => d.getD i 0) = d := by
  refine List.ext_getElem (by simp) fun i hi _ => ?_
  have hlt : i < d.length := by simpa using hi
  simp [hlt]

/-- A range cut into pieces of the same length. -/
theorem flatMap_range_pieces {α : Type} (f : Nat → α) (m n : Nat) :
    ((List.range n).flatMap fun k => (List.range m).map fun j => f (m * k + j)) = (List.range (m * n)).map f := by
  induction n with
  | zero => rfl
  | succ n ih =>
    rw [List.range_succ, List.flatMap_append, ih, Nat.mul_succ, List.range_add, List.map_append, List.map_map]
    simp

/-- COUNT and the points that follow it are all the bytes of a curve. -/
theorem curve_bytes {m : Nat} {d : List Byte} (h : IsCurve m d d.length) :
    send8 (byteAt d 0) ++
      ((List.range (byteAt d 0)).flatMap fun k => (List.range m).map fun j => d.getD (1 + m * k + j) 0) = d := by
  obtain ⟨_, _, hlength⟩ := h
  have hpieces := flatMap_range_pieces (fun i => d.getD (i + 1) 0) m (byteAt d 0)
  have hshift : ∀ k j, 1 + m * k + j = m * k + j + 1 := fun k j => by omega
  simp only [hshift]
  rw [hpieces, send8_byteAt]
  calc [d.getD 0 0] ++ (List.range (m * byteAt d 0)).map (fun i => d.getD (i + 1) 0)
      = (List.range (1 + byteAt d 0 * m)).map (fun i => d.getD i 0) := by
        rw [Nat.add_comm 1, List.range_succ_eq_map, Nat.mul_comm m, List.map_cons, List.map_map]
        rfl
    _ = d := by rw [← hlength, map_getD_range]

theorem sendTorqueCurve_takePoints {d : List Byte} (h : IsCurve 4 d d.length) :
    sendTorqueCurve (takePoints 4 torquePoint d) = d := by
  have hpoint : ∀ k, sendSigned16 (torquePoint d (1 + 4 * k)).x ++ sendSigned16 (torquePoint d (1 + 4 * k)).y =
      (List.range 4).map fun j => d.getD (1 + 4 * k + j) 0 := by
    intro k
    rw [torquePoint, sendSigned16_word16At, sendSigned16_word16At]
    rfl
  have hcount : (takePoints 4 torquePoint d).length = byteAt d 0 := by simp [takePoints]
  rw [sendTorqueCurve, hcount]
  simp only [takePoints, List.flatMap_map, hpoint]
  exact curve_bytes h

theorem sendFadeCurve_takePoints {d : List Byte} (h : IsCurve 3 d d.length) :
    sendFadeCurve (takePoints 3 fadePoint d) = d := by
  have hpoint : ∀ k, sendSigned16 (fadePoint d (1 + 3 * k)).x ++ send8 (fadePoint d (1 + 3 * k)).y.toNat =
      (List.range 3).map fun j => d.getD (1 + 3 * k + j) 0 := by
    intro k
    rw [fadePoint, sendSigned16_signed16At, Int.toNat_natCast, send8_byteAt]
    rfl
  have hcount : (takePoints 3 fadePoint d).length = byteAt d 0 := by simp [takePoints]
  rw [sendFadeCurve, hcount]
  simp only [takePoints, List.flatMap_map, hpoint]
  exact curve_bytes h

theorem sendAxlePlan_axlePlanOf (d : List Byte) :
    sendAxlePlan (axlePlanOf d) = (List.range 10).map fun i => d.getD i 0 := by
  simp only [sendAxlePlan, axlePlanOf, send16_word16At, send32_word32At]
  rfl

/-- A part written at its length reads back as written. -/
theorem sendPart_writePart_same (plan : PlanStore) {index : Nat} {d : List Byte} (hindex : index ≤ 10)
    (hlength : partLength index d = some d.length) : sendPart (plan.writePart index d).stagedCopy index = d := by
  have hbytes : ∀ {n}, d.length = n → ((List.range n).map fun i => d.getD i 0) = d := by
    rintro _ rfl
    exact map_getD_range d
  rw [partLength_eq_some_iff hindex] at hlength
  match index, hindex with
  | 1, _ => exact sendTorqueCurve_takePoints hlength
  | 3, _ => exact sendTorqueCurve_takePoints hlength
  | 8, _ => exact sendFadeCurve_takePoints hlength
  | 5, _ | 6, _ | 7, _ => exact (sendAxlePlan_axlePlanOf d).trans (hbytes hlength)
  | 0, _ | 2, _ | 4, _ | 9, _ | 10, _ =>
    refine Eq.trans ?_ (hbytes hlength)
    simp only [sendPart, PlanStore.writePart, PlanStore.stagedCopy, send8_byteAt, send16_word16At, send32_word32At]
    rfl

/-- A write of a part leaves every other part. -/
theorem sendPart_writePart (plan : PlanStore) (d : List Byte) {index other : Nat} (hindex : index ≤ 10)
    (hother : other ≤ 10) :
    sendPart (plan.writePart index d).stagedCopy other =
      if other = index then sendPart (plan.writePart index d).stagedCopy index
      else sendPart plan.stagedCopy other := by
  interval_cases index <;> interval_cases other <;> rfl

theorem PlanStore.writePart_pending (plan : PlanStore) (index : Nat) (d : List Byte) :
    (plan.writePart index d).e.pending = plan.e.pending ∧ (plan.writePart index d).t.pending = plan.t.pending ∧
    (plan.writePart index d).b.pending = plan.b.pending ∧ (plan.writePart index d).c.pending = plan.c.pending := by
  unfold writePart
  split <;> exact ⟨rfl, rfl, rfl, rfl⟩

/-- Settles O47: the bytes of each part are those that its fields were read from. -/
theorem stagedPartReadsBackAsWritten : Obligations.StagedPartReadsBackAsWritten := by
  intro plan index data hindex hlength after
  obtain ⟨hliveE, hliveT, hliveB, hliveC⟩ := plan.writePart_live index data
  obtain ⟨hmarkE, hmarkT, hmarkB, hmarkC⟩ := plan.writePart_pending index data
  exact ⟨sendPart_writePart_same plan hindex hlength,
    fun other hother hne => (sendPart_writePart plan data hindex hother).trans (if_neg hne), hliveE, hliveT, hliveB,
    hliveC, hmarkE, hmarkT, hmarkB, hmarkC, plan.writePart_stepE index data, plan.writePart_stepT index data⟩

end Sys2Proof.Machine
end

section
/-! PROOFS. Postings, the bitmap and attention (chapter 10), and the bytes of the records (chapter 9). -/

namespace Sys2Proof.Machine

open Sys2Proof

/-! ### Equal event units (R170) -/

theorem EventCounts.ext_get {c d : EventCounts} (h : ∀ k, c.get k = d.get k) : c = d := by
  cases c
  cases d
  simp only [EventCounts.mk.injEq]
  exact ⟨h .refresh, h .expired, h .novalue, h .shortfall, h .shiftLong, h .slipCut, h .heatState, h .heatSat,
    h .planApplied, h .syncLost, h .syncEarly, h .stateChange, h .massClamp, h .holdDropped, h .published,
    h .seedWanted⟩

theorem EventUnit.ext_get {u v : EventUnit} (hmask : u.mask = v.mask) (hcounts : ∀ k, u.counts.get k = v.counts.get k) :
    u = v := by
  cases u
  cases v
  simp only [EventUnit.mk.injEq]
  exact ⟨EventCounts.ext_get hcounts, hmask⟩

theorem PerPort.ext_get {α : Type} {x y : PerPort α} (h : ∀ p, x.get p = y.get p) : x = y := by
  cases x
  cases y
  simp only [PerPort.mk.injEq]
  exact ⟨h .e, h .t, h .b, h .c⟩

/-! ### Postings (R171, R176) -/

@[simp] theorem EventUnit.post_count_same (k : EventKind) (u : EventUnit) :
    (u.post k).counts.get k = bump (u.counts.get k) := by
  simp [EventUnit.post]

/-- Postings reach the event units alone. -/
theorem State.post_frame (k : EventKind) (ps : List Port) (s : State) :
    s.post k ps = { s with events := (s.post k ps).events } := rfl

theorem State.post_comm (k k' : EventKind) (ps ps' : List Port) (s : State) :
    (s.post k ps).post k' ps' = (s.post k' ps').post k ps := by
  have hevents : ((s.post k ps).post k' ps').events = ((s.post k' ps').post k ps).events := by
    refine PerPort.ext_get fun p => EventUnit.ext_get (by simp) fun j => ?_
    simp only [State.post_count]
    split_ifs <;> rfl
  rw [State.post_frame, hevents]
  rfl

/-- Settles O45: each posting raises its own count by one where it is below 255. -/
theorem postingsRaiseCounts : Obligations.PostingsRaiseCounts := by
  refine ⟨fun s k ps => ⟨s.post_frame k ps, State.post_mask k ps s, fun p k' => State.post_count k k' ps s p⟩,
    fun s k k' ps ps' => s.post_comm k k' ps ps', fun s k ps ps' p hp hp' => ?twice,
    fun u k echo => ⟨fun hecho hroom => ?below, fun hcount hecho => ?full⟩⟩
  case twice =>
    simp only [State.post_count, hp, hp', and_self, if_true, bump]
    omega
  case below =>
    simp only [EventUnit.acknowledge_count, EventUnit.post_count_same, bump]
    omega
  case full =>
    simp only [EventUnit.acknowledge_count, EventUnit.post_count_same, bump]
    omega

/-- Settles O46. -/
theorem bitmapAndAttentionFollowTheCounts : Obligations.BitmapAndAttentionFollowTheCounts :=
  ⟨EventUnit.bitmap_getLsbD, State.attention_iff⟩

/-! ### The lengths of fields and records (R166) -/

section Lengths

@[simp] theorem send8_length (n : Nat) : (send8 n).length = 1 := rfl
@[simp] theorem send16_length (n : Nat) : (send16 n).length = 2 := rfl
@[simp] theorem send32_length (n : Nat) : (send32 n).length = 4 := rfl
@[simp] theorem sendSigned16_length (v : Int) : (sendSigned16 v).length = 2 := rfl
@[simp] theorem sendFlag_length (b : Bool) : (sendFlag b).length = 1 := rfl

theorem sendTorqueCurve_length (ps : List Point) : (sendTorqueCurve ps).length = 1 + 4 * ps.length := by
  simp [sendTorqueCurve, Nat.mul_comm]

theorem sendFadeCurve_length (ps : List Point) : (sendFadeCurve ps).length = 1 + 3 * ps.length := by
  simp [sendFadeCurve, Nat.mul_comm]

theorem sendPart_length (x : PlanCopy) {index : Nat} (hindex : index ≤ 10) :
    (sendPart x index).length =
      [5, 1 + 4 * x.e.curve.length, 11, 1 + 4 * x.t.curve.length, 10, 10, 10, 10, 1 + 3 * x.b.fade.length, 24,
        10].getD index 0 := by
  match index, hindex with
  | 1, _ => exact sendTorqueCurve_length _
  | 3, _ => exact sendTorqueCurve_length _
  | 8, _ => exact sendFadeCurve_length _
  | 0, _ | 2, _ | 4, _ | 5, _ | 6, _ | 7, _ | 9, _ | 10, _ => rfl

theorem sendPortStatus_length (x : PortControl) : (sendPortStatus x).length = 9 := rfl

theorem sendEvents_length (c : EventCounts) : (sendEvents c).length = 16 := rfl

theorem sendEntry_length (soft : Nat) (x : Option DemandEntry) : (sendEntry soft x).length = 4 := by
  cases x <;> rfl

theorem sendHoldEntry_length (x : Option Nat) : (sendHoldEntry x).length = 4 := by
  cases x <;> rfl

theorem sendDemand_length (s : State) (index : Nat) : (sendDemand s index).length = 4 := by
  match index with
  | 0 | 1 => exact sendEntry_length _ _
  | _ + 2 => exact sendHoldEntry_length _

theorem sendReport_length (r : Reports) {index : Nat} (hindex : index ≤ 3) :
    (sendReport r index).length = [8, 11, 22, 6].getD index 0 := by
  match index, hindex with
  | 0, _ | 1, _ | 2, _ | 3, _ => rfl

theorem sendGrant_length (g : GrantSet) {index : Nat} (hindex : index ≤ 5) :
    (sendGrant g index).length = [14, 14, 14, 14, 14, 34].getD index 0 := by
  match index, hindex with
  | 0, _ | 1, _ | 2, _ | 3, _ | 4, _ | 5, _ => rfl

theorem sendHeat_length (h : PerAxle HeatAccount) (index : Nat) : (sendHeat h index).length = 4 := by
  match index with
  | 0 | 1 | _ + 2 => rfl

theorem sendRampStep_length (x : PlanStore) (index : Nat) :
    (sendRampStep x index).length = if index = 0 ∨ index = 2 then 2 else 0 := by
  match index with
  | 0 | 1 | 2 => rfl
  | _ + 3 => simp [sendRampStep]

theorem sendStaged_length (x : PlanStore) (index : Nat) :
    (sendStaged x index).length = 1 + (sendPart x.stagedCopy index).length := by
  rw [sendStaged, List.length_append, sendFlag_length]

theorem sendLive_length (x : PlanStore) (index : Nat) :
    (sendLive x index).length = 1 + (sendPart x.liveShown index).length + if index = 0 ∨ index = 2 then 2 else 0 := by
  rw [sendLive, List.length_append, List.length_append, sendFlag_length, sendRampStep_length]

end Lengths

/-! ### The records that a READ shows (R157, R158) -/

/-- The bytes of a record by its class and index; a SEED record is not read. -/
def recordBytes (s : State) (p : Port) (k : RecordClass) (index : Nat) : List Byte :=
  match k with
  | .ident => sendIdent p
  | .portStatus => sendPortStatus (byIndex s.ports index)
  | .events => sendEvents (byIndex s.events index).counts
  | .eventMask => send16 (byIndex s.events index).mask.toNat
  | .demand => sendDemand s index
  | .holdSet => sendHoldSet s.demand
  | .report => sendReport s.reports index
  | .grant => sendGrant s.app.published index
  | .heat => sendHeat s.heat.accounts index
  | .planStaged => sendStaged s.plan index
  | .planLive => sendLive s.plan index
  | .seed => []

section Records

variable {s : State} {p : Port} {cls index : Nat} {k : RecordClass}

theorem readRecord_eq_some (hcls : classOfCode cls = some k) (hindex : index ≤ lastIndex k) (hk : k ≠ .seed) :
    readRecord s p cls index = some (recordBytes s p k index) := by
  simp only [readRecord, hcls, if_neg (Nat.not_lt.mpr hindex)]
  cases k with
  | seed => exact absurd rfl hk
  | ident | portStatus | events | eventMask | demand | holdSet | report | grant | heat | planStaged | planLive => rfl

/-- A record that is read is one that the header names. -/
theorem readRecord_named {record : List Byte} (h : readRecord s p cls index = some record) :
    ∃ k, classOfCode cls = some k ∧ index ≤ lastIndex k ∧ k ≠ .seed ∧ record = recordBytes s p k index := by
  cases hcls : classOfCode cls with
  | none => simp [readRecord, hcls] at h
  | some k =>
    obtain hindex | hpast := Nat.lt_or_ge (lastIndex k) index
    · simp [readRecord, hcls, hindex] at h
    · by_cases hk : k = .seed
      · simp [readRecord, hcls, hk] at h
      · rw [readRecord_eq_some hcls hpast hk] at h
        exact ⟨k, rfl, hpast, hk, (Option.some.inj h).symm⟩

theorem readRecord_isSome_iff :
    (readRecord s p cls index).isSome = true ↔
      ∃ k, classOfCode cls = some k ∧ index ≤ lastIndex k ∧ k ≠ .seed := by
  rw [Option.isSome_iff_exists]
  constructor
  · rintro ⟨record, h⟩
    obtain ⟨k, hcls, hindex, hk, _⟩ := readRecord_named h
    exact ⟨k, hcls, hindex, hk⟩
  · rintro ⟨k, hcls, hindex, hk⟩
    exact ⟨_, readRecord_eq_some hcls hindex hk⟩

/-- The records that can be read, by class code. -/
theorem readable_iff :
    (∃ k, classOfCode cls = some k ∧ index ≤ lastIndex k ∧ k ≠ .seed) ↔
      1 ≤ cls ∧ cls ≤ 11 ∧ index ≤ [0, 0, 3, 3, 3, 2, 0, 3, 5, 2, 10, 10].getD cls 0 := by
  match cls with
  | 0 => simp [classOfCode]
  | 1 | 2 | 3 | 4 | 5 | 6 | 7 | 8 | 9 | 10 | 11 => simp [classOfCode, lastIndex]
  | 12 => simp [classOfCode]
  | n + 13 => simp [classOfCode]

end Records

/-! ### Fields as the statements have them (R166) -/

theorem sendFlag_eq (b : Bool) : sendFlag b = send8 b.toNat := by
  cases b <;> rfl

theorem sendSigned16_eq (v : Int) : sendSigned16 v = send16 (BitVec.ofInt 16 v).toNat := by
  rw [sendSigned16, BitVec.toNat_ofInt]
  rfl

/-- The number of a result code is its place in the list of the codes (R163). -/
theorem resultNumber_eq (code : ResultCode) :
    resultNumber code = [ResultCode.none, .ok, .seedPartial, .framing, .wait, .unterminated, .overrun, .unknown,
      .length, .owner, .pending, .invalid, .range, .state].idxOf code := by
  cases code <;> rfl

theorem send16_mask (mask : KindBits) : send16 mask.toNat = [mask.extractLsb' 8 8, mask.extractLsb' 0 8] := by
  rw [← highByte_eq, ← lowByte_eq]
  rfl

theorem byIndex_portNumber {α : Type} (x : PerPort α) (q : Port) : byIndex x (portNumber q) = x.get q := by
  cases q <;> rfl

theorem sendHoldEntry_eq (x : Option Nat) :
    sendHoldEntry x = send8 x.isSome.toNat ++ send8 0 ++ send16 (x.getD 0) := by
  cases x <;> rfl

theorem sendHeat_eq (h : PerAxle HeatAccount) (i : Axle) :
    sendHeat h (match i with | .front => 0 | .drive => 1 | .tag => 2) = sendAccount (h.get i) := by
  cases i <;> rfl

theorem sendReport_vehicle (r : Reports) :
    sendReport r 3 =
      send8 (if r.vehicle.written then 1 else 0) ++ send8 0 ++ send16 r.vehicle.mass ++
        sendSigned16 r.vehicle.ambient := rfl

/-! The owners of the parts (R127). -/

section PartOwner

variable {index : Nat}

theorem partOwner_eq_e (hhigh : index ≤ 1) : partOwner index = .e := if_pos hhigh

theorem partOwner_eq_t (hlow : 2 ≤ index) (hhigh : index ≤ 3) : partOwner index = .t := by
  rw [partOwner, if_neg (by omega), if_pos hhigh]

theorem partOwner_eq_b (hlow : 4 ≤ index) (hhigh : index ≤ 8) : partOwner index = .b := by
  rw [partOwner, if_neg (by omega), if_neg (by omega), if_pos hhigh]

theorem partOwner_eq_c (hlow : 9 ≤ index) : partOwner index = .c := by
  rw [partOwner, if_neg (by omega), if_neg (by omega), if_neg (by omega)]

end PartOwner

/-- A part of a section that is not live is shown as zeros (R130). -/
theorem sendPart_liveShown_zeros (x : PlanStore) {index : Nat} (hindex : index ≤ 10)
    (hdead : x.isLive (partOwner index) = false) :
    sendPart x.liveShown index = List.replicate ([5, 1, 11, 1, 10, 10, 10, 10, 1, 24, 10].getD index 0) 0 := by
  match index, hindex with
  | 0, _ | 1, _ =>
    have hnone : x.e.live = none := Option.isSome_eq_false_iff.mp hdead |> Option.isNone_iff_eq_none.mp
    simp only [sendPart, PlanStore.liveShown, hnone]
    rfl
  | 2, _ | 3, _ =>
    have hnone : x.t.live = none := Option.isSome_eq_false_iff.mp hdead |> Option.isNone_iff_eq_none.mp
    simp only [sendPart, PlanStore.liveShown, hnone]
    rfl
  | 4, _ | 5, _ | 6, _ | 7, _ | 8, _ =>
    have hnone : x.b.live = none := Option.isSome_eq_false_iff.mp hdead |> Option.isNone_iff_eq_none.mp
    simp only [sendPart, PlanStore.liveShown, hnone]
    rfl
  | 9, _ | 10, _ =>
    have hnone : x.c.live = none := Option.isSome_eq_false_iff.mp hdead |> Option.isNone_iff_eq_none.mp
    simp only [sendPart, PlanStore.liveShown, hnone]
    rfl

theorem sendRampStep_eq (x : PlanStore) (index : Nat) :
    sendRampStep x index =
      if index = 0 then send16 (x.stepE.getD 0) else if index = 2 then send16 (x.stepT.getD 0) else [] := by
  match index with
  | 0 | 1 | 2 => rfl
  | _ + 3 => simp [sendRampStep]

/-- Settles O48: a header names a record by its class and index, and each record is its fields in turn. -/
theorem recordsHaveTheirLengths : Obligations.RecordsHaveTheirLengths := by
  refine ⟨fun s p cls index => ?lengths, fun s p => ?bytes⟩
  case lengths =>
    intro part step length
    refine ⟨fun record h => ?_, readRecord_isSome_iff.trans readable_iff⟩
    obtain ⟨k, hcls, hindex, hk, rfl⟩ := readRecord_named h
    obtain ⟨hlow, hhigh, _⟩ := classOfCode_range hcls
    simp only [length]
    match cls, hcls with
    | 1, rfl => rfl
    | 2, rfl => exact sendPortStatus_length _
    | 3, rfl => exact sendEvents_length _
    | 4, rfl => rfl
    | 5, rfl => exact sendDemand_length s index
    | 6, rfl => rfl
    | 7, rfl => exact sendReport_length _ hindex
    | 8, rfl => exact sendGrant_length _ hindex
    | 9, rfl => exact sendHeat_length _ index
    | 10, rfl => exact (sendStaged_length _ _).trans (congrArg _ (sendPart_length _ hindex))
    | 11, rfl => exact (sendLive_length _ _).trans (congrArg (1 + · + step) (sendPart_length _ hindex))
    | 12, rfl => exact absurd rfl hk
  case bytes =>
    intro one two signed flag codes entry stands torque axle e t a v step live shows number kinds
    have hflag : ∀ b, sendFlag b = flag b := sendFlag_eq
    have hsigned : ∀ v, sendSigned16 v = signed v := sendSigned16_eq
    have htorque : ∀ x, sendAchievedTorque x = torque x := by
      intro x
      rw [sendAchievedTorque, hflag, hsigned]
    have haxle : ∀ x, sendAxleReport x = axle x := by
      intro x
      rw [sendAxleReport, hflag, hflag]
      rfl
    have hentry : ∀ x, sendEntry s.plan.ages.1 x = entry x := by
      intro x
      rw [PlanStore.ages_eq]
      cases x with
      | none => rfl
      | some y => cases hc : s.plan.c.live <;> simp only [entry, sendEntry, agesOf, hc] <;> rfl
    have hstands : ∀ x, send8 (reportCode x) = stands x := by
      intro x
      cases x <;> rfl
    have hnumber : ∀ q, portNumber q = number q := by
      intro q
      cases q <;> rfl
    have hshows : ∀ index q, index ≤ 10 → partOwner index = q →
        shows index (s.plan.isPending q) (s.plan.isLive q) := by
      rintro index _ hindex rfl
      refine ⟨?_, ?_, fun hdead => ⟨_, sendPart_liveShown_zeros s.plan hindex hdead⟩⟩
      · rw [readRecord_eq_some (k := .planStaged) rfl hindex (by decide), recordBytes, sendStaged, hflag]
      · rw [readRecord_eq_some (k := .planLive) rfl hindex (by decide), recordBytes, sendLive, hflag, sendRampStep_eq]
        rfl
    have hport : ∀ {α : Type} (x : PerPort α) q, byIndex x (number q) = x.get q := by
      intro α x q
      rw [← hnumber, byIndex_portNumber]
    have hsmall : ∀ q, number q ≤ 3 := by
      intro q
      cases q <;> decide
    refine ⟨?ident, fun q => ⟨?portStatus, ?events, ?eventMask⟩, ?pedal, ?stalk, ?hold, ?holdSet, ?exhaust, ?trans,
      ?axles, ?vehicle, fun i => ?heat, fun index hhigh => ?planE, fun index hlow hhigh => ?planT,
      fun index hlow hhigh => ?planB, fun index hlow hhigh => ?planC⟩
    case ident =>
      rw [readRecord_eq_some (k := .ident) rfl (by decide) (by decide), recordBytes, sendIdent, hnumber]
      rfl
    case portStatus =>
      rw [readRecord_eq_some (k := .portStatus) rfl (hsmall q) (by decide), recordBytes, hport, sendPortStatus, hflag,
        resultNumber_eq]
      rfl
    case events =>
      rw [readRecord_eq_some (k := .events) rfl (hsmall q) (by decide), recordBytes, hport]
      rfl
    case eventMask =>
      rw [readRecord_eq_some (k := .eventMask) rfl (hsmall q) (by decide), recordBytes, hport, send16_mask]
    case pedal =>
      rw [readRecord_eq_some (k := .demand) rfl (by decide) (by decide), recordBytes, sendDemand, hentry]
    case stalk =>
      rw [readRecord_eq_some (k := .demand) rfl (by decide) (by decide), recordBytes, sendDemand, hentry]
    case hold =>
      rw [readRecord_eq_some (k := .demand) rfl (by decide) (by decide)]
      exact congrArg some (sendHoldEntry_eq _)
    case holdSet =>
      rw [readRecord_eq_some (k := .holdSet) rfl (by decide) (by decide), recordBytes, sendHoldSet, hflag]
      rfl
    case exhaust =>
      rw [readRecord_eq_some (k := .report) rfl (by decide) (by decide), recordBytes, sendReport, hstands, htorque]
      rfl
    case trans =>
      rw [readRecord_eq_some (k := .report) rfl (by decide) (by decide), recordBytes, sendReport, hstands, htorque,
        hflag]
      rfl
    case axles =>
      rw [readRecord_eq_some (k := .report) rfl (by decide) (by decide), recordBytes, sendReport, hstands, haxle, haxle,
        haxle]
      rfl
    case vehicle =>
      have hwritten : send8 (if v.written then 1 else 0) = one v.written.toNat := hflag v.written
      rw [readRecord_eq_some (k := .report) rfl (by decide) (by decide), recordBytes, sendReport_vehicle, hwritten,
        hsigned]
      rfl
    case heat =>
      have hrank : ∀ x, send8 (heatRank x) = one (match x with | .cool => 0 | .warm => 1 | .hot => 2 | .fade => 3) := by
        intro x
        cases x <;> rfl
      have hindex : (match i with | .front => 0 | .drive => 1 | .tag => 2) ≤ 2 := by cases i <;> decide
      intro x
      refine (readRecord_eq_some (k := .heat) rfl hindex (by decide)).trans (congrArg some ?_)
      rw [recordBytes, sendHeat_eq, sendAccount, hsigned, hrank, hflag]
      rfl
    case planE => exact hshows index .e (by omega) (partOwner_eq_e hhigh)
    case planT => exact hshows index .t (by omega) (partOwner_eq_t hlow hhigh)
    case planB => exact hshows index .b (by omega) (partOwner_eq_b hlow hhigh)
    case planC => exact hshows index .c hhigh (partOwner_eq_c hlow)

end Sys2Proof.Machine
end
